-- ==== Sys2Proof/Word.lean ====
section
/-! DEFINITION. The bit-vector types of the two blocks: the 32-bit word (spec/00_scope.md R7, R9), the byte of
the bus (spec/20_memory.md R64), the 10-bit window offset and the 16-bit access descriptor (spec/30_encoding.md R80). -/

namespace Sys2Proof

/-- A byte as the bus carries it (R64). -/
abbrev Byte := BitVec 8

/-- A register of S or C, a queue element and an operation's result: 32 bits (R7 `REG_WIDTH`, `WORD`). -/
abbrev Word := BitVec 32

/-- A byte offset within a 0x400-byte window (R60, R61; field OFF of R80). -/
abbrev Offset := BitVec 10

/-- The 16-bit access descriptor (R80). -/
abbrev Descriptor := BitVec 16

/-- `BIT(k)` is `1 << k` (R9). -/
def bit (k : Fin 32) : Word := BitVec.ofNat 32 (2 ^ k.val)

end Sys2Proof
end

