-- ==== Sys2Proof/Config.lean ====
section
/-! DEFINITION. What an instance fixes at construction (spec/00_scope.md R7), the vocabulary of the environment and of
the event history (R8, R12; spec/10_state.md R51 to R55; spec/60_exceptions.md R231, R232), and the free values: the
environment's answers, on which the spec places no law. A value of type `Config` is the model's argument (R7); every
state carries the one its blocks were built with, and no step changes it (R57). -/

namespace Sys2Proof

/-- The two blocks: S, the SPI controller, and C, the CPU-configuration unit (R1). -/
inductive Block where
  | spi
  | cpucfg
deriving DecidableEq, Repr

/-- A core id, 0..3 (R7 `NCORES`). -/
abbrev CoreId := Fin 4

/-- `SPI_DEPTH`: the two variants of block S (R3, R7). -/
inductive SpiDepth where
  | d64
  | d128
deriving DecidableEq, Repr

/-- The number of words of a queue of the variant (R7, R25). -/
def SpiDepth.words : SpiDepth → Nat
  | .d64 => 64
  | .d128 => 128

/-- `CPUCFG_VARIANT` (R3, R7, R180). -/
inductive CpucfgVariant where
  | base
  | r40
deriving DecidableEq, Repr

/-- `SPI_SUBWORD_MODE` (R7, R66). -/
inductive SubwordMode where
  | exactOffset
  | refuse
deriving DecidableEq, Repr

/-- The fourteen registers that only the r40 variant has (R45). -/
inductive R40Reg where
  /-- C.PWROFF_GATING, the power-off-gating register. -/
  | pwroffGating
  /-- C.PSW[n], the power-switch register of core n. -/
  | psw (n : CoreId)
  /-- C.PSW_DELAY, the power-switch delay register. -/
  | pswDelay
  /-- C.CFG_DELAY, the config delay register. -/
  | cfgDelay
  /-- C.PWRDN_CFG, the power-down config register. -/
  | pwrdnCfg
  /-- C.PWRUP_CFG[k], the power-up config register k. -/
  | pwrupCfg (k : Fin 6)
deriving DecidableEq, Repr

/-- The fourteen r40 registers in the source's listing order, which is the default `R40_LAYOUT` (R203). -/
def R40Reg.all : List R40Reg :=
  [.pwroffGating, .psw 0, .psw 1, .psw 2, .psw 3, .pswDelay, .cfgDelay, .pwrdnCfg,
   .pwrupCfg 0, .pwrupCfg 1, .pwrupCfg 2, .pwrupCfg 3, .pwrupCfg 4, .pwrupCfg 5]

/-- One word for each r40 register (R45). The same shape holds the registers themselves and their reset constants
(R264). -/
structure R40Regs where
  pwroffGating : Word
  psw : Vector Word 4
  pswDelay : Word
  cfgDelay : Word
  pwrdnCfg : Word
  pwrupCfg : Vector Word 6
deriving DecidableEq, Repr

/-- The configuration of R7, fixed for the life of an instance (R57). -/
structure Config where
  /-- `SPI_DEPTH` -/
  spiDepth : SpiDepth
  /-- `CPUCFG_VARIANT` -/
  variant : CpucfgVariant
  /-- `SPI_SUBWORD_MODE` -/
  subwordMode : SubwordMode
  /-- `TCR_XCH_BIT` -/
  tcrXchBit : Fin 32
  /-- `FCR_TF_RST_BIT` -/
  fcrTfRstBit : Fin 32
  /-- `FCR_RF_RST_BIT` -/
  fcrRfRstBit : Fin 32
  /-- `RST_CTRL_RELEASED` (OPEN) -/
  rstCtrlReleased : Word
  /-- `CPU_CTRL_READ` (OPEN) -/
  cpuCtrlRead : Word
  /-- `CPU_STATUS_READ` (OPEN) -/
  cpuStatusRead : Word
  /-- `GEN_CTRL_RESET` (OPEN) -/
  genCtrlReset : Word
  /-- `R40_LAYOUT` (OPEN): the fourteen registers in the order of their slots 0x140, 0x144, ..., 0x174 (R203). -/
  r40Layout : List R40Reg
  /-- `PWROFF_GATING_RESET`, `PSW_RESET[0..3]`, `PSW_DELAY_RESET`, `CFG_DELAY_RESET`, `PWRDN_CFG_RESET`,
  `PWRUP_CFG_RESET[0..5]` (OPEN). -/
  r40Reset : R40Regs
  /-- `SPI_BASE` (OPEN) -/
  spiBase : Nat
  /-- `CPUCFG_BASE` (OPEN) -/
  cpucfgBase : Nat
deriving DecidableEq, Repr

/-- What a core lookup that finds the core answers (R8, R53). -/
structure CoreHandle where
  is64 : Bool
deriving DecidableEq, Repr, Inhabited

/-- The answer of the core lifecycle manager (R54, R55). -/
inductive PowerResult where
  | ok
  | err
deriving DecidableEq, Repr, Inhabited

/-- The diagnostic codes (R232). -/
inductive DiagCode where
  /-- DIAG_UNKNOWN_OFFSET: an offset with no register. -/
  | unknownOffset
  /-- DIAG_RO_WRITE: a write to FSR or RXD. -/
  | roWrite
  /-- DIAG_WO_READ: a read of TXD. -/
  | woRead
  /-- DIAG_UNIMP: debug-extern or a 64-bit counter register. -/
  | unimp
  /-- DIAG_BURST_ZERO: a burst of declared length 0. -/
  | burstZero
  /-- DIAG_BURST_MISMATCH: a declared length that is not the TX count. -/
  | burstMismatch
  /-- DIAG_POWER_ON_FAIL: power_on answered Err. -/
  | powerOnFail
  /-- DIAG_POWER_OFF_FAIL: power_off answered Err. -/
  | powerOffFail
deriving DecidableEq, Repr

/-- The four diagnostic classes (R231). -/
inductive DiagClass where
  | guestError
  | unimplemented
  | warning
  | error
deriving DecidableEq, Repr

/-- The payload that each `log` of the spec names. It is the spec's own, and no test of bit-exactness compares it
(R232). -/
inductive DiagInfo where
  /-- nothing beyond the offset -/
  | none
  /-- the value of a rejected or ignored write -/
  | value (v : Word)
  /-- the declared burst length (R162) -/
  | length (n0 : Nat)
  /-- the declared burst length and the TX count (R163) -/
  | lengths (n0 c : Nat)
  /-- the core and the lifecycle manager's answer (R188, R209) -/
  | core (n : CoreId) (r : PowerResult)
deriving DecidableEq, Repr

/-- The events of the history (R12, R51). -/
inductive Event where
  | exchange (tx rx : Word)
  | lookup (id : CoreId) (found : Bool)
  /-- The entry address is the 32-bit register value zero-extended (R187). -/
  | powerOn (id : CoreId) (entry : BitVec 64) (el : Nat) (is64 : Bool) (result : PowerResult)
  | powerOff (id : CoreId) (result : PowerResult)
  | diag (unit : Block) (code : DiagCode) (off : Offset) (info : DiagInfo)
deriving DecidableEq, Repr

/-- `EL_HIGHEST`, the symbolic constant 3 (R187). -/
def elHighest : Nat := 3

/-- FREE VALUE: the peripheral's answer to a word, which may depend on the history (R52). Used where the state
scripts no answer. -/
opaque Config.freeExchange : List Event → Word → Word

/-- FREE VALUE: the core registry's answer (R53). Used where the state scripts no answer. -/
opaque Config.freeLookup : List Event → CoreId → Option CoreHandle

/-- FREE VALUE: the lifecycle manager's answer to a power-on request (R54). Used where the state scripts no answer. -/
opaque Config.freePowerOn : List Event → CoreId → BitVec 64 → Nat → Bool → PowerResult

/-- FREE VALUE: the lifecycle manager's answer to a power-off request (R55). Used where the state scripts no answer. -/
opaque Config.freePowerOff : List Event → CoreId → PowerResult

/-- FREE VALUE: the level of the SPI interrupt line after the given number of host interactions (R8, R234). No rule
drives, raises or samples it. -/
opaque Config.freeSpiIrqLevel : Nat → Bool

/-- FREE VALUE: the platform's `SPI_BASE` (R7, R60). -/
opaque Config.platformSpiBase : Nat

/-- FREE VALUE: the platform's `CPUCFG_BASE` (R7, R61). -/
opaque Config.platformCpucfgBase : Nat

end Sys2Proof
end

