-- ==== Sys2Proof/Machine/Params.lean ====
section
/-! DEFINITION. The well-formedness of a configuration, and the one configuration that `State.reset` and
`decodeTableWord` are stated at. Nothing else in the model, and no statement about a rule, fixes a configuration. -/

namespace Sys2Proof

/-- `R40_LAYOUT` is a bijection from the fourteen registers to the fourteen slots (R203): every register has a slot
and there are fourteen slots. -/
def layoutOk (layout : List R40Reg) : Bool :=
  layout.length == 14 && R40Reg.all.all fun r => layout.contains r

/-- A configuration the spec admits: the layout is a bijection (R203), and the power-on constants 0x87 and 0x00400001
have the self-clearing bits clear (R28: `Reset loads 0x87, whose bit 31 is 0`; R29). DEDUCED (log 22), safe. -/
def Config.wf (cfg : Config) : Bool :=
  layoutOk cfg.r40Layout
    && !(0x00000087#32).getLsbD cfg.tcrXchBit
    && !(0x00400001#32).getLsbD cfg.fcrTfRstBit
    && !(0x00400001#32).getLsbD cfg.fcrRfRstBit

/-- The configuration of `State.reset`: the r40 variant (so that every row of the opcode table names an operation),
depth 64, `exact_offset`, the three bit positions of R7, the default layout of R203, the suggested values of R7, the
r40 reset constants at 0, and the platform's bases left free. DESIGN CHOICE (log 2, 3, 4), unsafe for a claim
about `State.reset` alone: the OPEN parameters have no value in the source. -/
def standardConfig : Config where
  spiDepth := .d64
  variant := .r40
  subwordMode := .exactOffset
  tcrXchBit := 31
  fcrTfRstBit := 31
  fcrRfRstBit := 15
  rstCtrlReleased := 0x00000003
  cpuCtrlRead := 0x00000000
  cpuStatusRead := 0x00000001
  genCtrlReset := 0x00000020
  r40Layout := R40Reg.all
  r40Reset :=
    { pwroffGating := 0
      psw := #v[0, 0, 0, 0]
      pswDelay := 0
      cfgDelay := 0
      pwrdnCfg := 0
      pwrupCfg := #v[0, 0, 0, 0, 0, 0] }
  spiBase := Config.platformSpiBase
  cpucfgBase := Config.platformCpucfgBase

end Sys2Proof
end

