-- ==== Sys2Proof/Syntax.lean ====
section
/-! DEFINITION. The operations of the two blocks: one constructor of `Instr` for each row of
spec/opcode_table.json (spec/30_encoding.md R88 to R91), and the register names that the operation maps use. An
operation of S carries the access size; a write carries its data operand; the operation of an unlisted offset carries the
offset (R149, R150, R201, R202). -/

namespace Sys2Proof

/-- The direction of an access: field D of the descriptor (R80, R83). -/
inductive Dir where
  | read
  | write
deriving DecidableEq, Repr

/-- The legal access sizes of block S: 1, 2 and 4 bytes (R65). Block C accepts 4 bytes only (R68), so its operations
carry no size. -/
inductive SpiSize where
  | b1
  | b2
  | b4
deriving DecidableEq, Repr

/-- The offsets of block S that have an operation of their own (R23, R88). -/
inductive SpiReg where
  | gcr
  | tcr
  | ier
  | isr
  | fcr
  | fsr
  | wcr
  | ccr
  | mbc
  | mtc
  | bcc
  | dmactl
  | txd
  | rxd
deriving DecidableEq, Repr

/-- The unimplemented registers of block C (R42, R47). -/
inductive UnimpReg where
  | dbgExtern
  | cnt64Ctrl
  | cnt64Low
  | cnt64High
deriving DecidableEq, Repr

/-- The offsets of block C that have an operation of their own (R42, R45, R89 to R91). -/
inductive CpucfgReg where
  | rstCtrl (n : CoreId)
  | ctrl (n : CoreId)
  | status (n : CoreId)
  | genCtrl
  | superStandby
  | entryAddr
  | r40 (r : R40Reg)
  | unimp (u : UnimpReg)
deriving DecidableEq, Repr

/-- Why decode refuses an access (R233). -/
inductive RefuseReason where
  /-- Descriptor bits 14:13 are nonzero (R85). -/
  | reserved
  /-- The size is not allowed for the unit (R65, R66, R68). -/
  | badSize
  /-- The offset is not a multiple of the size (R67, R69). -/
  | misaligned
  /-- An instruction fetch from a window (R75). -/
  | fetch
deriving DecidableEq, Repr

/-- One access as it is encoded: the descriptor and, for a write, the data operand (R80, R86). A read has no operand,
and the field is then not looked at. -/
structure Access where
  desc : Descriptor
  data : Word
deriving DecidableEq, Repr

/-- The operations, one for each row of spec/opcode_table.json, in the table's order. -/
inductive Instr where
  /-- `S.R.GCR` (R122) -/
  | sRGcr (sz : SpiSize)
  /-- `S.W.GCR` (R123) -/
  | sWGcr (sz : SpiSize) (data : Word)
  /-- `S.R.TCR` (R124) -/
  | sRTcr (sz : SpiSize)
  /-- `S.W.TCR` (R160) -/
  | sWTcr (sz : SpiSize) (data : Word)
  /-- `S.R.IER` (R125) -/
  | sRIer (sz : SpiSize)
  /-- `S.W.IER` (R126) -/
  | sWIer (sz : SpiSize) (data : Word)
  /-- `S.R.ISR` (R127) -/
  | sRIsr (sz : SpiSize)
  /-- `S.W.ISR` (R128) -/
  | sWIsr (sz : SpiSize) (data : Word)
  /-- `S.R.FCR` (R129) -/
  | sRFcr (sz : SpiSize)
  /-- `S.W.FCR` (R130) -/
  | sWFcr (sz : SpiSize) (data : Word)
  /-- `S.R.FSR` (R131) -/
  | sRFsr (sz : SpiSize)
  /-- `S.W.FSR` (R132) -/
  | sWFsr (sz : SpiSize) (data : Word)
  /-- `S.R.WCR` (R133) -/
  | sRWcr (sz : SpiSize)
  /-- `S.W.WCR` (R134) -/
  | sWWcr (sz : SpiSize) (data : Word)
  /-- `S.R.CCR` (R135) -/
  | sRCcr (sz : SpiSize)
  /-- `S.W.CCR` (R136) -/
  | sWCcr (sz : SpiSize) (data : Word)
  /-- `S.R.MBC` (R137) -/
  | sRMbc (sz : SpiSize)
  /-- `S.W.MBC` (R138) -/
  | sWMbc (sz : SpiSize) (data : Word)
  /-- `S.R.MTC` (R139) -/
  | sRMtc (sz : SpiSize)
  /-- `S.W.MTC` (R140) -/
  | sWMtc (sz : SpiSize) (data : Word)
  /-- `S.R.BCC` (R141) -/
  | sRBcc (sz : SpiSize)
  /-- `S.W.BCC` (R142) -/
  | sWBcc (sz : SpiSize) (data : Word)
  /-- `S.R.DMACTL` (R143) -/
  | sRDmactl (sz : SpiSize)
  /-- `S.W.DMACTL` (R144) -/
  | sWDmactl (sz : SpiSize) (data : Word)
  /-- `S.R.TXD` (R146) -/
  | sRTxd (sz : SpiSize)
  /-- `S.W.TXD` (R145) -/
  | sWTxd (sz : SpiSize) (data : Word)
  /-- `S.R.RXD` (R147) -/
  | sRRxd (sz : SpiSize)
  /-- `S.W.RXD` (R148) -/
  | sWRxd (sz : SpiSize) (data : Word)
  /-- `S.R.UNKNOWN` (R149) -/
  | sRUnknown (sz : SpiSize) (off : Offset)
  /-- `S.W.UNKNOWN` (R150) -/
  | sWUnknown (sz : SpiSize) (off : Offset) (data : Word)
  /-- `C.R.RST_CTRL0` (R182) -/
  | cRRstCtrl0
  /-- `C.W.RST_CTRL0` (R183) -/
  | cWRstCtrl0 (data : Word)
  /-- `C.R.RST_CTRL1` (R182) -/
  | cRRstCtrl1
  /-- `C.W.RST_CTRL1` (R183) -/
  | cWRstCtrl1 (data : Word)
  /-- `C.R.RST_CTRL2` (R182) -/
  | cRRstCtrl2
  /-- `C.W.RST_CTRL2` (R183) -/
  | cWRstCtrl2 (data : Word)
  /-- `C.R.RST_CTRL3` (R182) -/
  | cRRstCtrl3
  /-- `C.W.RST_CTRL3` (R183) -/
  | cWRstCtrl3 (data : Word)
  /-- `C.R.CTRL0` (R189) -/
  | cRCtrl0
  /-- `C.W.CTRL0` (R190) -/
  | cWCtrl0 (data : Word)
  /-- `C.R.CTRL1` (R189) -/
  | cRCtrl1
  /-- `C.W.CTRL1` (R190) -/
  | cWCtrl1 (data : Word)
  /-- `C.R.CTRL2` (R189) -/
  | cRCtrl2
  /-- `C.W.CTRL2` (R190) -/
  | cWCtrl2 (data : Word)
  /-- `C.R.CTRL3` (R189) -/
  | cRCtrl3
  /-- `C.W.CTRL3` (R190) -/
  | cWCtrl3 (data : Word)
  /-- `C.R.STATUS0` (R191) -/
  | cRStatus0
  /-- `C.W.STATUS0` (R192) -/
  | cWStatus0 (data : Word)
  /-- `C.R.STATUS1` (R191) -/
  | cRStatus1
  /-- `C.W.STATUS1` (R192) -/
  | cWStatus1 (data : Word)
  /-- `C.R.STATUS2` (R191) -/
  | cRStatus2
  /-- `C.W.STATUS2` (R192) -/
  | cWStatus2 (data : Word)
  /-- `C.R.STATUS3` (R191) -/
  | cRStatus3
  /-- `C.W.STATUS3` (R192) -/
  | cWStatus3 (data : Word)
  /-- `C.R.GEN_CTRL` (R193) -/
  | cRGenCtrl
  /-- `C.W.GEN_CTRL` (R194) -/
  | cWGenCtrl (data : Word)
  /-- `C.R.SUPER_STANDBY` (R195) -/
  | cRSuperStandby
  /-- `C.W.SUPER_STANDBY` (R196) -/
  | cWSuperStandby (data : Word)
  /-- `C.R.ENTRY_ADDR` (R197) -/
  | cREntryAddr
  /-- `C.W.ENTRY_ADDR` (R198) -/
  | cWEntryAddr (data : Word)
  /-- `C.R.PWROFF_GATING` (R204) -/
  | cRPwroffGating
  /-- `C.W.PWROFF_GATING` (R205) -/
  | cWPwroffGating (data : Word)
  /-- `C.R.PSW0` (R206) -/
  | cRPsw0
  /-- `C.W.PSW0` (R207) -/
  | cWPsw0 (data : Word)
  /-- `C.R.PSW1` (R206) -/
  | cRPsw1
  /-- `C.W.PSW1` (R207) -/
  | cWPsw1 (data : Word)
  /-- `C.R.PSW2` (R206) -/
  | cRPsw2
  /-- `C.W.PSW2` (R207) -/
  | cWPsw2 (data : Word)
  /-- `C.R.PSW3` (R206) -/
  | cRPsw3
  /-- `C.W.PSW3` (R207) -/
  | cWPsw3 (data : Word)
  /-- `C.R.PSW_DELAY` (R210) -/
  | cRPswDelay
  /-- `C.W.PSW_DELAY` (R211) -/
  | cWPswDelay (data : Word)
  /-- `C.R.CFG_DELAY` (R212) -/
  | cRCfgDelay
  /-- `C.W.CFG_DELAY` (R213) -/
  | cWCfgDelay (data : Word)
  /-- `C.R.PWRDN_CFG` (R214) -/
  | cRPwrdnCfg
  /-- `C.W.PWRDN_CFG` (R215) -/
  | cWPwrdnCfg (data : Word)
  /-- `C.R.PWRUP_CFG0` (R216) -/
  | cRPwrupCfg0
  /-- `C.W.PWRUP_CFG0` (R217) -/
  | cWPwrupCfg0 (data : Word)
  /-- `C.R.PWRUP_CFG1` (R216) -/
  | cRPwrupCfg1
  /-- `C.W.PWRUP_CFG1` (R217) -/
  | cWPwrupCfg1 (data : Word)
  /-- `C.R.PWRUP_CFG2` (R216) -/
  | cRPwrupCfg2
  /-- `C.W.PWRUP_CFG2` (R217) -/
  | cWPwrupCfg2 (data : Word)
  /-- `C.R.PWRUP_CFG3` (R216) -/
  | cRPwrupCfg3
  /-- `C.W.PWRUP_CFG3` (R217) -/
  | cWPwrupCfg3 (data : Word)
  /-- `C.R.PWRUP_CFG4` (R216) -/
  | cRPwrupCfg4
  /-- `C.W.PWRUP_CFG4` (R217) -/
  | cWPwrupCfg4 (data : Word)
  /-- `C.R.PWRUP_CFG5` (R216) -/
  | cRPwrupCfg5
  /-- `C.W.PWRUP_CFG5` (R217) -/
  | cWPwrupCfg5 (data : Word)
  /-- `C.R.UNIMP` at 0x1E4 (R199) -/
  | cRUnimpDbgExtern
  /-- `C.W.UNIMP` at 0x1E4 (R200) -/
  | cWUnimpDbgExtern (data : Word)
  /-- `C.R.UNIMP` at 0x280 (R199) -/
  | cRUnimpCnt64Ctrl
  /-- `C.W.UNIMP` at 0x280 (R200) -/
  | cWUnimpCnt64Ctrl (data : Word)
  /-- `C.R.UNIMP` at 0x284 (R199) -/
  | cRUnimpCnt64Low
  /-- `C.W.UNIMP` at 0x284 (R200) -/
  | cWUnimpCnt64Low (data : Word)
  /-- `C.R.UNIMP` at 0x288 (R199) -/
  | cRUnimpCnt64High
  /-- `C.W.UNIMP` at 0x288 (R200) -/
  | cWUnimpCnt64High (data : Word)
  /-- `C.R.UNKNOWN` (R201) -/
  | cRUnknown (off : Offset)
  /-- `C.W.UNKNOWN` (R202) -/
  | cWUnknown (off : Offset) (data : Word)
deriving DecidableEq, Repr

end Sys2Proof
end

