-- ==== Sys2Proof/Machine/Operands.lean ====
section
/-! DEFINITION. The operand forms of an access: the value a write delivers and the part of a result a read returns
(spec/20_memory.md R64, R66; spec/30_encoding.md R86; spec/41_spi_registers.md R120, R121), the masking of the
self-clearing bits (R130, R165), and the byte order of the bus. -/

namespace Sys2Proof

/-- `mask(s) = 2^(8*s) - 1` for an access of s bytes (R9). -/
def SpiSize.mask : SpiSize → Word
  | .b1 => 0x000000FF
  | .b2 => 0x0000FFFF
  | .b4 => 0xFFFFFFFF

/-- The low `8*size` bits of a word, zero-extended: `zext_32(w[8*size-1:0])`. -/
def lowBytes (sz : SpiSize) (w : Word) : Word :=
  w &&& sz.mask

/-- The value `v = zext_32(data)` that a write of S delivers (R66, R121). -/
def writeValue (sz : SpiSize) (data : Word) : Word :=
  lowBytes sz data

/-- The part `res[8*size-1:0]` of a result that a read of S returns (R66, R120). -/
def readValue (sz : SpiSize) (res : Word) : Word :=
  lowBytes sz res

/-- `v & ~BIT(k)` (R130, R165). -/
def clearBit (k : Fin 32) (v : Word) : Word :=
  v &&& ~~~ bit k

/-- The integer that a sequence of bytes carries, the least significant byte at the lowest address (R64). -/
def leNat : List Byte → Nat
  | [] => 0
  | b :: bs => b.toNat + 256 * leNat bs

/-- The `n` bytes of a value, the least significant first (R64). -/
def leBytes : Nat → Nat → List Byte
  | 0, _ => []
  | n + 1, v => BitVec.ofNat 8 v :: leBytes n (v / 256)

end Sys2Proof
end

