-- ==== Sys2Proof/Machine/RegMap.lean ====
section
/-! DEFINITION. The register maps of the two windows: which offset each named register stands at (spec/10_state.md R23,
R42, R45; spec/43_cpucfg.md R203) and which register, if any, an offset names. -/

namespace Sys2Proof

/-- The number of bytes of an access of S. -/
def SpiSize.bytes : SpiSize → Nat
  | .b1 => 1
  | .b2 => 2
  | .b4 => 4

/-- The legal size of `n` bytes, if there is one (R65). -/
def SpiSize.ofBytes : Nat → Option SpiSize
  | 1 => some .b1
  | 2 => some .b2
  | 4 => some .b4
  | _ => none

/-- The offsets of block S (R23, R88). -/
def SpiReg.offset : SpiReg → Offset
  | .gcr => 0x004
  | .tcr => 0x008
  | .ier => 0x010
  | .isr => 0x014
  | .fcr => 0x018
  | .fsr => 0x01C
  | .wcr => 0x020
  | .ccr => 0x024
  | .mbc => 0x030
  | .mtc => 0x034
  | .bcc => 0x038
  | .dmactl => 0x088
  | .txd => 0x200
  | .rxd => 0x300

/-- The rows of R88, in its order. -/
def SpiReg.all : List SpiReg :=
  [.gcr, .tcr, .ier, .isr, .fcr, .fsr, .wcr, .ccr, .mbc, .mtc, .bcc, .dmactl, .txd, .rxd]

/-- The row of R88 that an offset selects (R87 step 2d). -/
def SpiReg.ofOffset (off : Offset) : Option SpiReg :=
  SpiReg.all.find? fun r => r.offset == off

/-- The offset `R40_LAYOUT` gives a register: slot k is at 0x140 + 4k (R203). -/
def r40Offset (layout : List R40Reg) (r : R40Reg) : Offset :=
  BitVec.ofNat 10 (0x140 + 4 * layout.idxOf r)

/-- The offsets of the unimplemented registers (R42, R91). -/
def UnimpReg.offset : UnimpReg → Offset
  | .dbgExtern => 0x1E4
  | .cnt64Ctrl => 0x280
  | .cnt64Low => 0x284
  | .cnt64High => 0x288

/-- The offsets of block C (R42, R89 to R91). The block of core n starts at `0x40 + 0x40*n`; RST_CTRL, CTRL and STATUS
stand at +0x0, +0x4 and +0x8 inside it. -/
def CpucfgReg.offset (cfg : Config) : CpucfgReg → Offset
  | .rstCtrl n => BitVec.ofNat 10 (0x40 + 0x40 * n.val)
  | .ctrl n => BitVec.ofNat 10 (0x44 + 0x40 * n.val)
  | .status n => BitVec.ofNat 10 (0x48 + 0x40 * n.val)
  | .genCtrl => 0x184
  | .superStandby => 0x1A0
  | .entryAddr => 0x1A4
  | .r40 r => r40Offset cfg.r40Layout r
  | .unimp u => u.offset

/-- The rows of R89, which hold in both variants. -/
def CpucfgReg.common : List CpucfgReg :=
  [.rstCtrl 0, .rstCtrl 1, .rstCtrl 2, .rstCtrl 3, .ctrl 0, .ctrl 1, .ctrl 2, .ctrl 3,
   .status 0, .status 1, .status 2, .status 3, .genCtrl, .superStandby, .entryAddr]

/-- The unimplemented registers, in the order of their offsets (R91). -/
def CpucfgReg.unimplemented : List CpucfgReg :=
  [.unimp .dbgExtern, .unimp .cnt64Ctrl, .unimp .cnt64Low, .unimp .cnt64High]

/-- The register map of the active variant, in the order in which R87 steps 3c, 3d and 3e try its rows (R180). -/
def cpucfgMap (cfg : Config) : List CpucfgReg :=
  CpucfgReg.common
    ++ (if cfg.variant = .r40 then R40Reg.all.map .r40 else [])
    ++ CpucfgReg.unimplemented

/-- The row that an offset of block C selects (R87 steps 3c to 3e). -/
def CpucfgReg.ofOffset (cfg : Config) (off : Offset) : Option CpucfgReg :=
  (cpucfgMap cfg).find? fun r => r.offset cfg == off

end Sys2Proof
end

