-- ==== Sys2Proof/WellFormed.lean ====
section
/-! DEFINITION. Which operations a descriptor can encode (spec/30_encoding.md R82, R86 to R91): the size is one the block
accepts, the data operand has `8*size` bits, the offset of an unlisted operation is aligned and names no register, and an
r40 operation exists only in the r40 variant. -/

namespace Sys2Proof

/-- A size of S that the sub-word mode lets through (R87 step 2b). -/
def sizeOk (cfg : Config) (sz : SpiSize) : Bool :=
  sz == .b4 || cfg.subwordMode == .exactOffset

/-- A data operand of `8*size` bits (R86). -/
def dataFits (sz : SpiSize) (data : Word) : Bool :=
  lowBytes sz data == data

/-- An offset of S that names no register and is aligned to the access (R87 steps 2c and 2e). -/
def spiUnknownOk (sz : SpiSize) (off : Offset) : Bool :=
  off.toNat % sz.bytes == 0 && SpiReg.ofOffset off == none

/-- An offset of C that names no register of the active variant and is aligned (R87 steps 3b and 3f). -/
def cpucfgUnknownOk (cfg : Config) (off : Offset) : Bool :=
  off.toNat % 4 == 0 && CpucfgReg.ofOffset cfg off == none

/-- The r40 map is present (R90, R92). -/
def isR40 (cfg : Config) : Bool :=
  cfg.variant == .r40

/-- An operation that some descriptor and data operand encode under the configuration. -/
def Instr.wf (cfg : Config) : Instr → Bool
  | .sRGcr sz => sizeOk cfg sz
  | .sWGcr sz data => sizeOk cfg sz && dataFits sz data
  | .sRTcr sz => sizeOk cfg sz
  | .sWTcr sz data => sizeOk cfg sz && dataFits sz data
  | .sRIer sz => sizeOk cfg sz
  | .sWIer sz data => sizeOk cfg sz && dataFits sz data
  | .sRIsr sz => sizeOk cfg sz
  | .sWIsr sz data => sizeOk cfg sz && dataFits sz data
  | .sRFcr sz => sizeOk cfg sz
  | .sWFcr sz data => sizeOk cfg sz && dataFits sz data
  | .sRFsr sz => sizeOk cfg sz
  | .sWFsr sz data => sizeOk cfg sz && dataFits sz data
  | .sRWcr sz => sizeOk cfg sz
  | .sWWcr sz data => sizeOk cfg sz && dataFits sz data
  | .sRCcr sz => sizeOk cfg sz
  | .sWCcr sz data => sizeOk cfg sz && dataFits sz data
  | .sRMbc sz => sizeOk cfg sz
  | .sWMbc sz data => sizeOk cfg sz && dataFits sz data
  | .sRMtc sz => sizeOk cfg sz
  | .sWMtc sz data => sizeOk cfg sz && dataFits sz data
  | .sRBcc sz => sizeOk cfg sz
  | .sWBcc sz data => sizeOk cfg sz && dataFits sz data
  | .sRDmactl sz => sizeOk cfg sz
  | .sWDmactl sz data => sizeOk cfg sz && dataFits sz data
  | .sRTxd sz => sizeOk cfg sz
  | .sWTxd sz data => sizeOk cfg sz && dataFits sz data
  | .sRRxd sz => sizeOk cfg sz
  | .sWRxd sz data => sizeOk cfg sz && dataFits sz data
  | .sRUnknown sz off => sizeOk cfg sz && spiUnknownOk sz off
  | .sWUnknown sz off data => sizeOk cfg sz && dataFits sz data && spiUnknownOk sz off
  | .cRRstCtrl0 => true
  | .cWRstCtrl0 _ => true
  | .cRRstCtrl1 => true
  | .cWRstCtrl1 _ => true
  | .cRRstCtrl2 => true
  | .cWRstCtrl2 _ => true
  | .cRRstCtrl3 => true
  | .cWRstCtrl3 _ => true
  | .cRCtrl0 => true
  | .cWCtrl0 _ => true
  | .cRCtrl1 => true
  | .cWCtrl1 _ => true
  | .cRCtrl2 => true
  | .cWCtrl2 _ => true
  | .cRCtrl3 => true
  | .cWCtrl3 _ => true
  | .cRStatus0 => true
  | .cWStatus0 _ => true
  | .cRStatus1 => true
  | .cWStatus1 _ => true
  | .cRStatus2 => true
  | .cWStatus2 _ => true
  | .cRStatus3 => true
  | .cWStatus3 _ => true
  | .cRGenCtrl => true
  | .cWGenCtrl _ => true
  | .cRSuperStandby => true
  | .cWSuperStandby _ => true
  | .cREntryAddr => true
  | .cWEntryAddr _ => true
  | .cRPwroffGating => isR40 cfg
  | .cWPwroffGating _ => isR40 cfg
  | .cRPsw0 => isR40 cfg
  | .cWPsw0 _ => isR40 cfg
  | .cRPsw1 => isR40 cfg
  | .cWPsw1 _ => isR40 cfg
  | .cRPsw2 => isR40 cfg
  | .cWPsw2 _ => isR40 cfg
  | .cRPsw3 => isR40 cfg
  | .cWPsw3 _ => isR40 cfg
  | .cRPswDelay => isR40 cfg
  | .cWPswDelay _ => isR40 cfg
  | .cRCfgDelay => isR40 cfg
  | .cWCfgDelay _ => isR40 cfg
  | .cRPwrdnCfg => isR40 cfg
  | .cWPwrdnCfg _ => isR40 cfg
  | .cRPwrupCfg0 => isR40 cfg
  | .cWPwrupCfg0 _ => isR40 cfg
  | .cRPwrupCfg1 => isR40 cfg
  | .cWPwrupCfg1 _ => isR40 cfg
  | .cRPwrupCfg2 => isR40 cfg
  | .cWPwrupCfg2 _ => isR40 cfg
  | .cRPwrupCfg3 => isR40 cfg
  | .cWPwrupCfg3 _ => isR40 cfg
  | .cRPwrupCfg4 => isR40 cfg
  | .cWPwrupCfg4 _ => isR40 cfg
  | .cRPwrupCfg5 => isR40 cfg
  | .cWPwrupCfg5 _ => isR40 cfg
  | .cRUnimpDbgExtern => true
  | .cWUnimpDbgExtern _ => true
  | .cRUnimpCnt64Ctrl => true
  | .cWUnimpCnt64Ctrl _ => true
  | .cRUnimpCnt64Low => true
  | .cWUnimpCnt64Low _ => true
  | .cRUnimpCnt64High => true
  | .cWUnimpCnt64High _ => true
  | .cRUnknown off => cpucfgUnknownOk cfg off
  | .cWUnknown off _ => cpucfgUnknownOk cfg off

end Sys2Proof
end

