-- ==== Sys2Proof/Decode.lean ====
section
/-! DEFINITION. The decoder of the access descriptor, total on every descriptor and operand (spec/30_encoding.md R80 to
R92), and after it the encoder, written from the same field table. -/

namespace Sys2Proof

/-- Field U (R80, R81). -/
def descUnit (d : Descriptor) : Block :=
  if d.getLsbD 15 then .cpucfg else .spi

/-- Field RES (R80, R85). -/
def descReserved (d : Descriptor) : BitVec 2 :=
  d.extractLsb' 13 2

/-- The access size: field SZ plus 1 (R80, R82). -/
def descSize (d : Descriptor) : Nat :=
  (d.extractLsb' 11 2).toNat + 1

/-- Field D (R80, R83). -/
def descDir (d : Descriptor) : Dir :=
  if d.getLsbD 10 then .write else .read

/-- Field OFF, neither scaled nor shifted (R80, R84). -/
def descOff (d : Descriptor) : Offset :=
  d.extractLsb' 0 10

/-- The read operation of a row of R88. -/
def spiReadInstr (sz : SpiSize) : SpiReg → Instr
  | .gcr => .sRGcr sz
  | .tcr => .sRTcr sz
  | .ier => .sRIer sz
  | .isr => .sRIsr sz
  | .fcr => .sRFcr sz
  | .fsr => .sRFsr sz
  | .wcr => .sRWcr sz
  | .ccr => .sRCcr sz
  | .mbc => .sRMbc sz
  | .mtc => .sRMtc sz
  | .bcc => .sRBcc sz
  | .dmactl => .sRDmactl sz
  | .txd => .sRTxd sz
  | .rxd => .sRRxd sz

/-- The write operation of a row of R88. -/
def spiWriteInstr (sz : SpiSize) (data : Word) : SpiReg → Instr
  | .gcr => .sWGcr sz data
  | .tcr => .sWTcr sz data
  | .ier => .sWIer sz data
  | .isr => .sWIsr sz data
  | .fcr => .sWFcr sz data
  | .fsr => .sWFsr sz data
  | .wcr => .sWWcr sz data
  | .ccr => .sWCcr sz data
  | .mbc => .sWMbc sz data
  | .mtc => .sWMtc sz data
  | .bcc => .sWBcc sz data
  | .dmactl => .sWDmactl sz data
  | .txd => .sWTxd sz data
  | .rxd => .sWRxd sz data

/-- The read operation of a row of R90. -/
def r40ReadInstr : R40Reg → Instr
  | .pwroffGating => .cRPwroffGating
  | .psw 0 => .cRPsw0
  | .psw 1 => .cRPsw1
  | .psw 2 => .cRPsw2
  | .psw 3 => .cRPsw3
  | .pswDelay => .cRPswDelay
  | .cfgDelay => .cRCfgDelay
  | .pwrdnCfg => .cRPwrdnCfg
  | .pwrupCfg 0 => .cRPwrupCfg0
  | .pwrupCfg 1 => .cRPwrupCfg1
  | .pwrupCfg 2 => .cRPwrupCfg2
  | .pwrupCfg 3 => .cRPwrupCfg3
  | .pwrupCfg 4 => .cRPwrupCfg4
  | .pwrupCfg 5 => .cRPwrupCfg5

/-- The write operation of a row of R90. -/
def r40WriteInstr (data : Word) : R40Reg → Instr
  | .pwroffGating => .cWPwroffGating data
  | .psw 0 => .cWPsw0 data
  | .psw 1 => .cWPsw1 data
  | .psw 2 => .cWPsw2 data
  | .psw 3 => .cWPsw3 data
  | .pswDelay => .cWPswDelay data
  | .cfgDelay => .cWCfgDelay data
  | .pwrdnCfg => .cWPwrdnCfg data
  | .pwrupCfg 0 => .cWPwrupCfg0 data
  | .pwrupCfg 1 => .cWPwrupCfg1 data
  | .pwrupCfg 2 => .cWPwrupCfg2 data
  | .pwrupCfg 3 => .cWPwrupCfg3 data
  | .pwrupCfg 4 => .cWPwrupCfg4 data
  | .pwrupCfg 5 => .cWPwrupCfg5 data

/-- The read operation of a row of R89, R90 or R91. -/
def cpucfgReadInstr : CpucfgReg → Instr
  | .rstCtrl 0 => .cRRstCtrl0
  | .rstCtrl 1 => .cRRstCtrl1
  | .rstCtrl 2 => .cRRstCtrl2
  | .rstCtrl 3 => .cRRstCtrl3
  | .ctrl 0 => .cRCtrl0
  | .ctrl 1 => .cRCtrl1
  | .ctrl 2 => .cRCtrl2
  | .ctrl 3 => .cRCtrl3
  | .status 0 => .cRStatus0
  | .status 1 => .cRStatus1
  | .status 2 => .cRStatus2
  | .status 3 => .cRStatus3
  | .genCtrl => .cRGenCtrl
  | .superStandby => .cRSuperStandby
  | .entryAddr => .cREntryAddr
  | .r40 r => r40ReadInstr r
  | .unimp .dbgExtern => .cRUnimpDbgExtern
  | .unimp .cnt64Ctrl => .cRUnimpCnt64Ctrl
  | .unimp .cnt64Low => .cRUnimpCnt64Low
  | .unimp .cnt64High => .cRUnimpCnt64High

/-- The write operation of a row of R89, R90 or R91. -/
def cpucfgWriteInstr (data : Word) : CpucfgReg → Instr
  | .rstCtrl 0 => .cWRstCtrl0 data
  | .rstCtrl 1 => .cWRstCtrl1 data
  | .rstCtrl 2 => .cWRstCtrl2 data
  | .rstCtrl 3 => .cWRstCtrl3 data
  | .ctrl 0 => .cWCtrl0 data
  | .ctrl 1 => .cWCtrl1 data
  | .ctrl 2 => .cWCtrl2 data
  | .ctrl 3 => .cWCtrl3 data
  | .status 0 => .cWStatus0 data
  | .status 1 => .cWStatus1 data
  | .status 2 => .cWStatus2 data
  | .status 3 => .cWStatus3 data
  | .genCtrl => .cWGenCtrl data
  | .superStandby => .cWSuperStandby data
  | .entryAddr => .cWEntryAddr data
  | .r40 r => r40WriteInstr data r
  | .unimp .dbgExtern => .cWUnimpDbgExtern data
  | .unimp .cnt64Ctrl => .cWUnimpCnt64Ctrl data
  | .unimp .cnt64Low => .cWUnimpCnt64Low data
  | .unimp .cnt64High => .cWUnimpCnt64High data

/-- R87 steps 2d and 2e: the operation of block S at an offset. -/
def spiInstr (dir : Dir) (sz : SpiSize) (off : Offset) (data : Word) : Instr :=
  match dir, SpiReg.ofOffset off with
  | .read, some r => spiReadInstr sz r
  | .read, none => .sRUnknown sz off
  | .write, some r => spiWriteInstr sz data r
  | .write, none => .sWUnknown sz off data

/-- R87 steps 3c to 3f: the operation of block C at an offset. -/
def cpucfgInstr (cfg : Config) (dir : Dir) (off : Offset) (data : Word) : Instr :=
  match dir, CpucfgReg.ofOffset cfg off with
  | .read, some r => cpucfgReadInstr r
  | .read, none => .cRUnknown off
  | .write, some r => cpucfgWriteInstr data r
  | .write, none => .cWUnknown off data

/-- R87 step 2: an access to block S. The data operand is the low `8*size` bits (R86). -/
def decodeSpi (cfg : Config) (size : Nat) (dir : Dir) (off : Offset) (data : Word) : Except RefuseReason Instr :=
  match SpiSize.ofBytes size with
  | none => .error .badSize
  | some sz =>
    if sizeOk cfg sz = false then .error .badSize
    else if off.toNat % sz.bytes ≠ 0 then .error .misaligned
    else .ok (spiInstr dir sz off (lowBytes sz data))

/-- R87 step 3: an access to block C. -/
def decodeCpucfg (cfg : Config) (size : Nat) (dir : Dir) (off : Offset) (data : Word) : Except RefuseReason Instr :=
  if size ≠ 4 then .error .badSize
  else if off.toNat % 4 ≠ 0 then .error .misaligned
  else .ok (cpucfgInstr cfg dir off data)

/-- R87: total on every descriptor; the first step that matches decides. -/
def decode (cfg : Config) (a : Access) : Except RefuseReason Instr :=
  if descReserved a.desc ≠ 0 then .error .reserved
  else
    match descUnit a.desc with
    | .spi => decodeSpi cfg (descSize a.desc) (descDir a.desc) (descOff a.desc) a.data
    | .cpucfg => decodeCpucfg cfg (descSize a.desc) (descDir a.desc) (descOff a.desc) a.data

/-- The descriptor with the given fields and RES = 00 (R80). -/
def mkDescriptor (unit : Block) (szField : BitVec 2) (dir : Dir) (off : Offset) : Descriptor :=
  (match unit with | .spi => 0x0000 | .cpucfg => 0x8000)
    ||| (szField.setWidth 16 <<< 11)
    ||| (match dir with | .read => 0x0000 | .write => 0x0400)
    ||| off.setWidth 16

/-- Field SZ, the access size minus 1 (R80). -/
def SpiSize.field : SpiSize → BitVec 2
  | .b1 => 0
  | .b2 => 1
  | .b4 => 3

/-- A read of block S. -/
def spiRead (sz : SpiSize) (off : Offset) : Access :=
  { desc := mkDescriptor .spi sz.field .read off, data := 0 }

/-- A write of block S. -/
def spiWrite (sz : SpiSize) (off : Offset) (data : Word) : Access :=
  { desc := mkDescriptor .spi sz.field .write off, data := data }

/-- A read of block C. -/
def cpucfgRead (off : Offset) : Access :=
  { desc := mkDescriptor .cpucfg 3 .read off, data := 0 }

/-- A write of block C. -/
def cpucfgWrite (off : Offset) (data : Word) : Access :=
  { desc := mkDescriptor .cpucfg 3 .write off, data := data }

/-- The descriptor and data operand of an operation (R80, R86, R88 to R91). -/
def encode (cfg : Config) : Instr → Access
  | .sRGcr sz => spiRead sz (SpiReg.offset .gcr)
  | .sWGcr sz data => spiWrite sz (SpiReg.offset .gcr) data
  | .sRTcr sz => spiRead sz (SpiReg.offset .tcr)
  | .sWTcr sz data => spiWrite sz (SpiReg.offset .tcr) data
  | .sRIer sz => spiRead sz (SpiReg.offset .ier)
  | .sWIer sz data => spiWrite sz (SpiReg.offset .ier) data
  | .sRIsr sz => spiRead sz (SpiReg.offset .isr)
  | .sWIsr sz data => spiWrite sz (SpiReg.offset .isr) data
  | .sRFcr sz => spiRead sz (SpiReg.offset .fcr)
  | .sWFcr sz data => spiWrite sz (SpiReg.offset .fcr) data
  | .sRFsr sz => spiRead sz (SpiReg.offset .fsr)
  | .sWFsr sz data => spiWrite sz (SpiReg.offset .fsr) data
  | .sRWcr sz => spiRead sz (SpiReg.offset .wcr)
  | .sWWcr sz data => spiWrite sz (SpiReg.offset .wcr) data
  | .sRCcr sz => spiRead sz (SpiReg.offset .ccr)
  | .sWCcr sz data => spiWrite sz (SpiReg.offset .ccr) data
  | .sRMbc sz => spiRead sz (SpiReg.offset .mbc)
  | .sWMbc sz data => spiWrite sz (SpiReg.offset .mbc) data
  | .sRMtc sz => spiRead sz (SpiReg.offset .mtc)
  | .sWMtc sz data => spiWrite sz (SpiReg.offset .mtc) data
  | .sRBcc sz => spiRead sz (SpiReg.offset .bcc)
  | .sWBcc sz data => spiWrite sz (SpiReg.offset .bcc) data
  | .sRDmactl sz => spiRead sz (SpiReg.offset .dmactl)
  | .sWDmactl sz data => spiWrite sz (SpiReg.offset .dmactl) data
  | .sRTxd sz => spiRead sz (SpiReg.offset .txd)
  | .sWTxd sz data => spiWrite sz (SpiReg.offset .txd) data
  | .sRRxd sz => spiRead sz (SpiReg.offset .rxd)
  | .sWRxd sz data => spiWrite sz (SpiReg.offset .rxd) data
  | .sRUnknown sz off => spiRead sz off
  | .sWUnknown sz off data => spiWrite sz off data
  | .cRRstCtrl0 => cpucfgRead (CpucfgReg.offset cfg (.rstCtrl 0))
  | .cWRstCtrl0 data => cpucfgWrite (CpucfgReg.offset cfg (.rstCtrl 0)) data
  | .cRRstCtrl1 => cpucfgRead (CpucfgReg.offset cfg (.rstCtrl 1))
  | .cWRstCtrl1 data => cpucfgWrite (CpucfgReg.offset cfg (.rstCtrl 1)) data
  | .cRRstCtrl2 => cpucfgRead (CpucfgReg.offset cfg (.rstCtrl 2))
  | .cWRstCtrl2 data => cpucfgWrite (CpucfgReg.offset cfg (.rstCtrl 2)) data
  | .cRRstCtrl3 => cpucfgRead (CpucfgReg.offset cfg (.rstCtrl 3))
  | .cWRstCtrl3 data => cpucfgWrite (CpucfgReg.offset cfg (.rstCtrl 3)) data
  | .cRCtrl0 => cpucfgRead (CpucfgReg.offset cfg (.ctrl 0))
  | .cWCtrl0 data => cpucfgWrite (CpucfgReg.offset cfg (.ctrl 0)) data
  | .cRCtrl1 => cpucfgRead (CpucfgReg.offset cfg (.ctrl 1))
  | .cWCtrl1 data => cpucfgWrite (CpucfgReg.offset cfg (.ctrl 1)) data
  | .cRCtrl2 => cpucfgRead (CpucfgReg.offset cfg (.ctrl 2))
  | .cWCtrl2 data => cpucfgWrite (CpucfgReg.offset cfg (.ctrl 2)) data
  | .cRCtrl3 => cpucfgRead (CpucfgReg.offset cfg (.ctrl 3))
  | .cWCtrl3 data => cpucfgWrite (CpucfgReg.offset cfg (.ctrl 3)) data
  | .cRStatus0 => cpucfgRead (CpucfgReg.offset cfg (.status 0))
  | .cWStatus0 data => cpucfgWrite (CpucfgReg.offset cfg (.status 0)) data
  | .cRStatus1 => cpucfgRead (CpucfgReg.offset cfg (.status 1))
  | .cWStatus1 data => cpucfgWrite (CpucfgReg.offset cfg (.status 1)) data
  | .cRStatus2 => cpucfgRead (CpucfgReg.offset cfg (.status 2))
  | .cWStatus2 data => cpucfgWrite (CpucfgReg.offset cfg (.status 2)) data
  | .cRStatus3 => cpucfgRead (CpucfgReg.offset cfg (.status 3))
  | .cWStatus3 data => cpucfgWrite (CpucfgReg.offset cfg (.status 3)) data
  | .cRGenCtrl => cpucfgRead (CpucfgReg.offset cfg .genCtrl)
  | .cWGenCtrl data => cpucfgWrite (CpucfgReg.offset cfg .genCtrl) data
  | .cRSuperStandby => cpucfgRead (CpucfgReg.offset cfg .superStandby)
  | .cWSuperStandby data => cpucfgWrite (CpucfgReg.offset cfg .superStandby) data
  | .cREntryAddr => cpucfgRead (CpucfgReg.offset cfg .entryAddr)
  | .cWEntryAddr data => cpucfgWrite (CpucfgReg.offset cfg .entryAddr) data
  | .cRPwroffGating => cpucfgRead (CpucfgReg.offset cfg (.r40 .pwroffGating))
  | .cWPwroffGating data => cpucfgWrite (CpucfgReg.offset cfg (.r40 .pwroffGating)) data
  | .cRPsw0 => cpucfgRead (CpucfgReg.offset cfg (.r40 (.psw 0)))
  | .cWPsw0 data => cpucfgWrite (CpucfgReg.offset cfg (.r40 (.psw 0))) data
  | .cRPsw1 => cpucfgRead (CpucfgReg.offset cfg (.r40 (.psw 1)))
  | .cWPsw1 data => cpucfgWrite (CpucfgReg.offset cfg (.r40 (.psw 1))) data
  | .cRPsw2 => cpucfgRead (CpucfgReg.offset cfg (.r40 (.psw 2)))
  | .cWPsw2 data => cpucfgWrite (CpucfgReg.offset cfg (.r40 (.psw 2))) data
  | .cRPsw3 => cpucfgRead (CpucfgReg.offset cfg (.r40 (.psw 3)))
  | .cWPsw3 data => cpucfgWrite (CpucfgReg.offset cfg (.r40 (.psw 3))) data
  | .cRPswDelay => cpucfgRead (CpucfgReg.offset cfg (.r40 .pswDelay))
  | .cWPswDelay data => cpucfgWrite (CpucfgReg.offset cfg (.r40 .pswDelay)) data
  | .cRCfgDelay => cpucfgRead (CpucfgReg.offset cfg (.r40 .cfgDelay))
  | .cWCfgDelay data => cpucfgWrite (CpucfgReg.offset cfg (.r40 .cfgDelay)) data
  | .cRPwrdnCfg => cpucfgRead (CpucfgReg.offset cfg (.r40 .pwrdnCfg))
  | .cWPwrdnCfg data => cpucfgWrite (CpucfgReg.offset cfg (.r40 .pwrdnCfg)) data
  | .cRPwrupCfg0 => cpucfgRead (CpucfgReg.offset cfg (.r40 (.pwrupCfg 0)))
  | .cWPwrupCfg0 data => cpucfgWrite (CpucfgReg.offset cfg (.r40 (.pwrupCfg 0))) data
  | .cRPwrupCfg1 => cpucfgRead (CpucfgReg.offset cfg (.r40 (.pwrupCfg 1)))
  | .cWPwrupCfg1 data => cpucfgWrite (CpucfgReg.offset cfg (.r40 (.pwrupCfg 1))) data
  | .cRPwrupCfg2 => cpucfgRead (CpucfgReg.offset cfg (.r40 (.pwrupCfg 2)))
  | .cWPwrupCfg2 data => cpucfgWrite (CpucfgReg.offset cfg (.r40 (.pwrupCfg 2))) data
  | .cRPwrupCfg3 => cpucfgRead (CpucfgReg.offset cfg (.r40 (.pwrupCfg 3)))
  | .cWPwrupCfg3 data => cpucfgWrite (CpucfgReg.offset cfg (.r40 (.pwrupCfg 3))) data
  | .cRPwrupCfg4 => cpucfgRead (CpucfgReg.offset cfg (.r40 (.pwrupCfg 4)))
  | .cWPwrupCfg4 data => cpucfgWrite (CpucfgReg.offset cfg (.r40 (.pwrupCfg 4))) data
  | .cRPwrupCfg5 => cpucfgRead (CpucfgReg.offset cfg (.r40 (.pwrupCfg 5)))
  | .cWPwrupCfg5 data => cpucfgWrite (CpucfgReg.offset cfg (.r40 (.pwrupCfg 5))) data
  | .cRUnimpDbgExtern => cpucfgRead (CpucfgReg.offset cfg (.unimp .dbgExtern))
  | .cWUnimpDbgExtern data => cpucfgWrite (CpucfgReg.offset cfg (.unimp .dbgExtern)) data
  | .cRUnimpCnt64Ctrl => cpucfgRead (CpucfgReg.offset cfg (.unimp .cnt64Ctrl))
  | .cWUnimpCnt64Ctrl data => cpucfgWrite (CpucfgReg.offset cfg (.unimp .cnt64Ctrl)) data
  | .cRUnimpCnt64Low => cpucfgRead (CpucfgReg.offset cfg (.unimp .cnt64Low))
  | .cWUnimpCnt64Low data => cpucfgWrite (CpucfgReg.offset cfg (.unimp .cnt64Low)) data
  | .cRUnimpCnt64High => cpucfgRead (CpucfgReg.offset cfg (.unimp .cnt64High))
  | .cWUnimpCnt64High data => cpucfgWrite (CpucfgReg.offset cfg (.unimp .cnt64High)) data
  | .cRUnknown off => cpucfgRead off
  | .cWUnknown off data => cpucfgWrite off data

/-- An instruction's bits as spec/opcode_table.json numbers them: the descriptor is bits 15:0 and the data operand
follows from bit 16. Bits from `nbits` up are 0. -/
def tableAccess (nbits w : Nat) : Access :=
  { desc := BitVec.ofNat 16 (w % 2 ^ nbits), data := BitVec.ofNat 32 (w % 2 ^ nbits / 2 ^ 16) }

/-- What the decoder reads from a table word, in the configuration of `State.reset`. -/
def decodeTableWord (nbits w : Nat) : Option Instr :=
  match decode standardConfig (tableAccess nbits w) with
  | .ok i => some i
  | .error _ => none

end Sys2Proof
end

