-- ==== Sys2Proof/Machine/Queue.lean ====
section
/-! DEFINITION. The bounded word queue of block S and its primitives (spec/40_fifo.md R100 to R106). -/

namespace Sys2Proof.Machine

/-- A queue: its capacity and its contents, the head the oldest element (R100). -/
structure WordQueue where
  cap : Nat
  items : List Word
deriving DecidableEq, Repr

/-- `q_create(N)` (R101). -/
def WordQueue.create (n : Nat) : WordQueue :=
  { cap := n, items := [] }

/-- `q_reset(Q)` (R102). -/
def WordQueue.reset (q : WordQueue) : WordQueue :=
  { q with items := [] }

/-- `q_push(Q, w)`: a push onto a full queue drops the word (R103). -/
def WordQueue.push (q : WordQueue) (w : Word) : WordQueue :=
  if q.items.length < q.cap then { q with items := q.items ++ [w] } else q

/-- `q_pop(Q)`: the popped word and the queue after it; an empty queue gives 0 and stays empty (R104). -/
def WordQueue.pop (q : WordQueue) : Word × WordQueue :=
  match q.items with
  | [] => (0, q)
  | h :: t => (h, { q with items := t })

/-- `q_count(Q)` (R105). -/
def WordQueue.count (q : WordQueue) : Nat :=
  q.items.length

/-- `q_empty(Q)` (R106). -/
def WordQueue.empty (q : WordQueue) : Bool :=
  q.items.length == 0

/-- `q_full(Q)` (R106). -/
def WordQueue.full (q : WordQueue) : Bool :=
  q.items.length == q.cap

end Sys2Proof.Machine
end

