-- ==== Sys2Proof/Machine/Flags.lean ====
section
/-! DEFINITION. The status-like values of the blocks. Neither block has condition codes (spec/10_state.md R22): S.ISR is
plain storage and stands in the state; FSR is computed on every read (R26), and the class of a diagnostic is fixed by its
code (spec/60_exceptions.md R231, R232). -/

namespace Sys2Proof.Machine

/-- The FIFO-status word `{8'h00, q_count(S.TX)[7:0], 8'h00, q_count(S.RX)[7:0]}` (R26, R131). -/
def fsrWord (tx rx : WordQueue) : Word :=
  ((BitVec.ofNat 8 tx.count).setWidth 32 <<< 16) ||| (BitVec.ofNat 8 rx.count).setWidth 32

/-- The class of a diagnostic code (R232). -/
def diagClass : DiagCode → DiagClass
  | .unknownOffset => .guestError
  | .roWrite => .guestError
  | .woRead => .guestError
  | .unimp => .unimplemented
  | .burstZero => .warning
  | .burstMismatch => .warning
  | .powerOnFail => .error
  | .powerOffFail => .error

end Sys2Proof.Machine
end

