-- ==== Sys2Proof/Machine/Blocks.lean ====
section
/-! DEFINITION. The architected storage of the two blocks (spec/10_state.md R20, R24, R25, R43, R45) and what a device
reset loads into it (spec/70_reset_and_hazards.md R261 to R264, R267). -/

namespace Sys2Proof.Machine

/-- Block S: eleven stored registers (R24) and two word queues (R25). FSR, TXD and RXD hold no storage (R26, R27). -/
structure SpiBlock where
  /-- S.GCR, global control (R30) -/
  gcr : Word
  /-- S.TCR, transfer control (R31) -/
  tcr : Word
  /-- S.IER, interrupt enable (R32) -/
  ier : Word
  /-- S.ISR, interrupt status (R33) -/
  isr : Word
  /-- S.FCR, FIFO control (R34) -/
  fcr : Word
  /-- S.WCR, wait clock (R36) -/
  wcr : Word
  /-- S.CCR, clock control (R37) -/
  ccr : Word
  /-- S.MBC, burst counter (R38) -/
  mbc : Word
  /-- S.MTC, transmit counter (R39) -/
  mtc : Word
  /-- S.BCC, burst-control counter (R40) -/
  bcc : Word
  /-- S.DMACTL, DMA mode control (R41) -/
  dmactl : Word
  /-- S.TX, the transmit queue -/
  tx : WordQueue
  /-- S.RX, the receive queue -/
  rx : WordQueue
deriving DecidableEq, Repr

/-- Block C: three stored registers of both variants (R43) and the fourteen of the r40 variant (R45). The base variant
has none of the fourteen: there no rule reads or writes `r40`. RST_CTRL, CTRL, STATUS and the unimplemented offsets hold
no storage (R44, R47). -/
structure CpucfgBlock where
  /-- C.GEN_CTRL -/
  genCtrl : Word
  /-- C.SUPER_STANDBY -/
  superStandby : Word
  /-- C.ENTRY_ADDR -/
  entryAddr : Word
  /-- C.PWROFF_GATING, C.PSW[0..3], C.PSW_DELAY, C.CFG_DELAY, C.PWRDN_CFG, C.PWRUP_CFG[0..5] -/
  r40 : R40Regs
deriving DecidableEq, Repr

/-- Reset of S: both queues are cleared with their capacity kept (R261), and every stored register is loaded with its
power-on constant (R262). -/
def SpiBlock.resetBlock (b : SpiBlock) : SpiBlock where
  gcr := 0x00000080
  tcr := 0x00000087
  ier := 0x00000000
  isr := 0x00000032
  fcr := 0x00400001
  wcr := 0x00000000
  ccr := 0x00000002
  mbc := 0x00000000
  mtc := 0x00000000
  bcc := 0x00000000
  dmactl := 0x000000A5
  tx := b.tx.reset
  rx := b.rx.reset

/-- Block S at construction, before its first reset event (R267): empty queues of the variant's depth. The register
values stand for nothing, since the reset event loads every one. -/
def SpiBlock.create (cfg : Config) : SpiBlock where
  gcr := 0
  tcr := 0
  ier := 0
  isr := 0
  fcr := 0
  wcr := 0
  ccr := 0
  mbc := 0
  mtc := 0
  bcc := 0
  dmactl := 0
  tx := WordQueue.create cfg.spiDepth.words
  rx := WordQueue.create cfg.spiDepth.words

/-- Reset of C (R263) and, in the r40 variant, of its further registers (R264). -/
def CpucfgBlock.resetBlock (cfg : Config) (b : CpucfgBlock) : CpucfgBlock where
  genCtrl := cfg.genCtrlReset
  superStandby := 0
  entryAddr := 0
  r40 := if cfg.variant = .r40 then cfg.r40Reset else b.r40

/-- Block C at construction, before its first reset event (R267). -/
def CpucfgBlock.create (cfg : Config) : CpucfgBlock where
  genCtrl := 0
  superStandby := 0
  entryAddr := 0
  r40 := cfg.r40Reset

/-- The r40 register file read at one register (R204, R206, R210, R212, R214, R216). -/
def readReg40 (f : R40Regs) : R40Reg → Word
  | .pwroffGating => f.pwroffGating
  | .psw n => f.psw[n]
  | .pswDelay => f.pswDelay
  | .cfgDelay => f.cfgDelay
  | .pwrdnCfg => f.pwrdnCfg
  | .pwrupCfg k => f.pwrupCfg[k]

/-- The r40 register file with one register replaced (R205, R207, R211, R213, R215, R217). -/
def writeReg40 (f : R40Regs) (r : R40Reg) (v : Word) : R40Regs :=
  match r with
  | .pwroffGating => { f with pwroffGating := v }
  | .psw n => { f with psw := f.psw.set n v }
  | .pswDelay => { f with pswDelay := v }
  | .cfgDelay => { f with cfgDelay := v }
  | .pwrdnCfg => { f with pwrdnCfg := v }
  | .pwrupCfg k => { f with pwrupCfg := f.pwrupCfg.set k v }

end Sys2Proof.Machine
end

