-- ==== Sys2Proof/Machine/State.lean ====
section
/-! DEFINITION. The machine's state (spec/10_state.md), the host's interactions and what the host gets back (R56), why a
step can stop, and the state after reset (spec/70_reset_and_hazards.md R267). -/

namespace Sys2Proof.Machine

/-- One host interaction (R56). -/
inductive HostMove where
  /-- An access given by its descriptor and data operand (R80, R86). -/
  | access (a : Access)
  /-- `MemRead(addr, n)` (R11). -/
  | busRead (addr size : Nat)
  /-- `MemWrite(addr, n, v)` with v as its n bytes, the first at the lowest address (R11, R64). -/
  | busWrite (addr : Nat) (bytes : List Byte)
  /-- An instruction fetch (R75). -/
  | fetch (addr : Nat)
  /-- `RESET S` or `RESET C` (R93, R260). -/
  | reset (unit : Block)
deriving DecidableEq, Repr

/-- What the host gets back from one interaction (R56). -/
inductive Reply where
  /-- A read's value of `8*size` bits. -/
  | value (size : Nat) (v : Word)
  /-- Completion of a write or of a reset event. -/
  | done
  /-- The access was refused at decode (R233). -/
  | refused (r : RefuseReason)
deriving DecidableEq, Repr

/-- The MODEL's own: the environment's answers to come, in the order they will be drawn (R8, R52 to R55). Where a list
is empty the answer is a free value of Config. DESIGN CHOICE (log 5), safe. -/
structure Script where
  exchanges : List Word
  lookups : List (Option CoreHandle)
  powerOns : List PowerResult
  powerOffs : List PowerResult
deriving DecidableEq, Repr

/-- The machine: one instance of S and one of C, the event history, and the host's side of the interface. -/
structure State where
  /-- The configuration of R7, fixed for the life of the instance (R57). -/
  cfg : Config
  /-- Block S (R24, R25). -/
  spi : SpiBlock
  /-- Block C (R43, R45). -/
  cpucfg : CpucfgBlock
  /-- The event history, oldest first (R12, R51). -/
  history : List Event
  /-- The MODEL's own: the environment's answers to come. -/
  script : Script
  /-- The host interactions still to be served, in issue order (R56, R72). DESIGN CHOICE (log 10), safe. -/
  pending : List HostMove
  /-- What the host got back, oldest first (R56). -/
  replies : List Reply
deriving DecidableEq, Repr

/-- Why a step faults. No access to S or C raises an exception (R230), so the one fault is the model's. -/
inductive Fault where
  /-- Raised by the routing of a bus access whose address both windows hold: the spec describes no platform that places
  S and C over one address (R60, R61). DESIGN CHOICE (log 8). Safe: the model stops. -/
  | windowsOverlap
deriving DecidableEq, Repr

/-- Why a step is refused. -/
inductive Refusal where
  /-- Raised by an arm of `exec` whose instruction has no meaning yet (no arm is so). Safe: the model stops. -/
  | notModelled (mnemonic : String)
  /-- Raised by the routing of a bus access or fetch outside both windows, to which the spec gives no meaning (R62).
  DESIGN CHOICE (log 8). Safe: the model stops. -/
  | outsideWindows
deriving DecidableEq, Repr

/-- The state at creation of an instance with a given configuration: construction followed by a reset event for each
block, an empty history (R267), and no interaction issued yet. -/
def State.launch (cfg : Config) : State where
  cfg := cfg
  spi := (SpiBlock.create cfg).resetBlock
  cpucfg := (CpucfgBlock.create cfg).resetBlock cfg
  history := []
  script := { exchanges := [], lookups := [], powerOns := [], powerOffs := [] }
  pending := []
  replies := []

/-- The machine right after reset, in the configuration `standardConfig`. -/
def State.reset : State :=
  State.launch standardConfig

end Sys2Proof.Machine
end

