-- ==== Sys2Proof/Machine/Ops.lean ====
section
/-! DEFINITION. The named operations that the meanings share: `emit`, `log` and `draw` (spec/00_scope.md R12), the replies
of an access (R11), the rejected and unknown accesses (spec/60_exceptions.md R230 to R232), the requests to the
environment (spec/10_state.md R52 to R55), reset_core and power_switch (spec/43_cpucfg.md R184 to R188, R207 to R209), the
burst (spec/42_spi_burst.md R161 to R164) and the reset events (spec/70_reset_and_hazards.md R260 to R265). No trap is
ever taken (R237), so there is no exception entry and no return. -/

namespace Sys2Proof.Machine

/-! ## Updates of the state -/

/-- Replace block S. -/
def State.setSpi (s : State) (b : SpiBlock) : State :=
  { s with spi := b }

/-- Replace block C. -/
def State.setCpucfg (s : State) (b : CpucfgBlock) : State :=
  { s with cpucfg := b }

/-- Replace the environment's answers to come. -/
def State.setScript (s : State) (e : Script) : State :=
  { s with script := e }

/-- Replace the interactions still to be served. -/
def State.setPending (s : State) (ms : List HostMove) : State :=
  { s with pending := ms }

/-- `emit E`: append an event to the history (R12). -/
def State.emit (s : State) (e : Event) : State :=
  { s with history := s.history ++ [e] }

/-- Hand the host the outcome of its interaction (R56). -/
def State.reply (s : State) (r : Reply) : State :=
  { s with replies := s.replies ++ [r] }

/-- `log`: a diagnostic is one event of the history and changes nothing else (R12, R231). -/
def State.log (s : State) (unit : Block) (code : DiagCode) (off : Offset) (info : DiagInfo) : State :=
  s.emit (.diag unit code off info)

/-- The level of the SPI interrupt line: an environment input, which no rule drives, raises or samples (R8, R234).
DESIGN CHOICE (log 6), safe. -/
def State.spiIrqLevel (s : State) : Bool :=
  Config.freeSpiIrqLevel s.replies.length

/-! ## The outcome of an access -/

/-- A read of S returns the low `8*size` bits of its result (R66, R120). -/
def State.spiResult (s : State) (sz : SpiSize) (res : Word) : State :=
  s.reply (.value sz.bytes (readValue sz res))

/-- A read of C returns its result whole (R181). -/
def State.cpucfgResult (s : State) (res : Word) : State :=
  s.reply (.value 4 res)

/-- A write completes (R56). -/
def State.complete (s : State) : State :=
  s.reply .done

/-- A read of S that is logged and returns 0 (R146, R149). -/
def State.spiRejectRead (s : State) (sz : SpiSize) (code : DiagCode) (off : Offset) : State :=
  (s.log .spi code off .none).spiResult sz 0

/-- A write of S that is logged and ignored (R132, R148, R150). -/
def State.spiRejectWrite (s : State) (code : DiagCode) (off : Offset) (v : Word) : State :=
  (s.log .spi code off (.value v)).complete

/-- A read of C that is logged and returns 0 (R199, R201). -/
def State.cpucfgRejectRead (s : State) (code : DiagCode) (off : Offset) : State :=
  (s.log .cpucfg code off .none).cpucfgResult 0

/-- A write of C that is logged and ignored (R200, R202). -/
def State.cpucfgRejectWrite (s : State) (code : DiagCode) (off : Offset) (v : Word) : State :=
  (s.log .cpucfg code off (.value v)).complete

/-! ## Draws from the environment -/

/-- `draw r <- exchange(t); emit Exchange(t, r)` (R52, R164): the answer and the state after the event. -/
def State.exchange (s : State) (t : Word) : Word × State :=
  match s.script.exchanges with
  | [] =>
    let r := Config.freeExchange s.history t
    (r, s.emit (.exchange t r))
  | r :: rs => (r, (s.setScript { s.script with exchanges := rs }).emit (.exchange t r))

/-- `draw h <- lookup(n); emit Lookup(n, h ≠ None)` (R53, R184). -/
def State.lookup (s : State) (n : CoreId) : Option CoreHandle × State :=
  match s.script.lookups with
  | [] =>
    let h := Config.freeLookup s.history n
    (h, s.emit (.lookup n h.isSome))
  | h :: hs => (h, (s.setScript { s.script with lookups := hs }).emit (.lookup n h.isSome))

/-- `draw r <- power_on(n, entry, el, is64); emit PowerOn(n, entry, el, is64, r)` (R54, R187). -/
def State.powerOn (s : State) (n : CoreId) (entry : BitVec 64) (el : Nat) (is64 : Bool) : PowerResult × State :=
  match s.script.powerOns with
  | [] =>
    let r := Config.freePowerOn s.history n entry el is64
    (r, s.emit (.powerOn n entry el is64 r))
  | r :: rs => (r, (s.setScript { s.script with powerOns := rs }).emit (.powerOn n entry el is64 r))

/-- `draw r <- power_off(n); emit PowerOff(n, r)` (R55, R209). -/
def State.powerOff (s : State) (n : CoreId) : PowerResult × State :=
  match s.script.powerOffs with
  | [] =>
    let r := Config.freePowerOff s.history n
    (r, s.emit (.powerOff n r))
  | r :: rs => (r, (s.setScript { s.script with powerOffs := rs }).emit (.powerOff n r))

/-! ## The burst -/

/-- The declared burst length `S.MBC[23:0]` (R161). -/
def declaredLength (b : SpiBlock) : Nat :=
  (b.mbc.extractLsb' 0 24).toNat

/-- One turn of the word loop (R164): pop TX, exchange, and push the response unless RX is full. -/
def State.burstWord (s : State) : State :=
  let popped := s.spi.tx.pop
  let answered := (s.setSpi { s.spi with tx := popped.2 }).exchange popped.1
  let after := answered.2
  if after.spi.rx.full then after
  else after.setSpi { after.spi with rx := after.spi.rx.push answered.1 }

/-- The word loop of `n` turns (R164). -/
def State.burstLoop : Nat → State → State
  | 0, s => s
  | n + 1, s => State.burstLoop n s.burstWord

/-- BURST: R161 to R164 in order. -/
def State.burst (s : State) : State :=
  let n0 := declaredLength s.spi
  let c := s.spi.tx.count
  if n0 = 0 then s.log .spi .burstZero SpiReg.tcr.offset (.length n0)
  else if n0 ≠ c then (s.log .spi .burstMismatch SpiReg.tcr.offset (.lengths n0 c)).burstLoop c
  else s.burstLoop n0

/-! ## Requests for cores -/

/-- reset_core(n), called by the access at `off`: R184 to R188 in order. That `off` in the log is that offset is DEDUCED
(log 15), safe. -/
def State.resetCore (s : State) (n : CoreId) (off : Offset) : State :=
  let found := s.lookup n
  match found.1 with
  | none => found.2
  | some h =>
    let started := found.2.powerOn n (found.2.cpucfg.entryAddr.setWidth 64) elHighest h.is64
    match started.1 with
    | .ok => started.2
    | .err => started.2.log .cpucfg .powerOnFail off (.core n .err)

/-- power_switch(n, on): nothing (R208). -/
def State.powerSwitchOn (s : State) (_n : CoreId) : State :=
  s

/-- power_switch(n, off), called by the access at `off` (R209). That `off` in the log is that offset is DEDUCED (log 15),
safe. -/
def State.powerSwitchOff (s : State) (n : CoreId) (off : Offset) : State :=
  let stopped := s.powerOff n
  match stopped.1 with
  | .ok => stopped.2
  | .err => stopped.2.log .cpucfg .powerOffFail off (.core n .err)

/-! ## Reset events -/

/-- `RESET S` and `RESET C`: the block's storage only; no event, no request, no change of the history (R260 to R265). -/
def State.resetEvent (s : State) : Block → State
  | .spi => s.setSpi s.spi.resetBlock
  | .cpucfg => s.setCpucfg (s.cpucfg.resetBlock s.cfg)

end Sys2Proof.Machine
end

