-- ==== Sys2Proof/Machine/Bus.lean ====
section
/-! DEFINITION. The host interface (spec/10_state.md R56): how the next interaction reaches a block, as an access
descriptor, a bus access, an instruction fetch or a reset event (spec/20_memory.md R60 to R69, R75; spec/30_encoding.md
R81; spec/70_reset_and_hazards.md R260). -/

namespace Sys2Proof.Machine

/-- Where a bus address leads (R60 to R62). -/
inductive Route where
  /-- Into one block's window, at the given offset. -/
  | window (unit : Block) (off : Nat)
  /-- Into both windows: no platform the spec describes. -/
  | overlap
  /-- Into neither window. -/
  | outside
deriving DecidableEq, Repr

/-- What a host interaction asks of the machine. -/
inductive Served where
  /-- No interaction is left: the blocks are passive and wait (R21, R59). -/
  | idle
  /-- The interaction ended without an operation: a reset event or a refused access. -/
  | ended (s : State)
  /-- An accepted access: the operation to run. -/
  | run (i : Instr) (s : State)
  /-- A bus address that both windows hold. -/
  | overlap
  /-- A bus address that neither window holds. -/
  | outside
deriving DecidableEq, Repr

/-- `SPI_WINDOW` and `CPUCFG_WINDOW` (R7). -/
def windowSize : Nat := 0x400

/-- A window that starts at `base` holds the bus address `a` (R60, R61). -/
def inWindow (base a : Nat) : Bool :=
  base ≤ a && a < base + windowSize

/-- The block whose window holds `a`, and the offset there (R60, R61, R81). -/
def routeAddr (cfg : Config) (a : Nat) : Route :=
  match inWindow cfg.spiBase a, inWindow cfg.cpucfgBase a with
  | true, true => .overlap
  | true, false => .window .spi (a - cfg.spiBase)
  | false, true => .window .cpucfg (a - cfg.cpucfgBase)
  | false, false => .outside

/-- The descriptor of a bus access of `size` bytes, if a descriptor has that size (R80 to R82). -/
def busDescriptor (unit : Block) (dir : Dir) (size off : Nat) : Option Descriptor :=
  if 1 ≤ size ∧ size ≤ 4 then
    some (mkDescriptor unit (BitVec.ofNat 2 (size - 1)) dir (BitVec.ofNat 10 off))
  else none

/-- A refused access takes no step of S or C: the host receives the refusal and nothing else changes (R233).
That the machine goes on is DEDUCED (log 7), safe. -/
def State.refuse (s : State) (r : RefuseReason) : Served :=
  .ended (s.reply (.refused r))

/-- An access by its descriptor: decoded, then run or refused (R87, R233). -/
def State.serveAccess (s : State) (a : Access) : Served :=
  match decode s.cfg a with
  | .ok i => .run i s
  | .error r => s.refuse r

/-- An access by its bus address, of a size the bus names: delivered to the block whose window holds the address (R11). A
size that no descriptor has is refused (R65, R68): DEDUCED (log 19), safe. -/
def State.serveBus (s : State) (dir : Dir) (addr size : Nat) (data : Word) : Served :=
  match routeAddr s.cfg addr with
  | .outside => .outside
  | .overlap => .overlap
  | .window unit off =>
    match busDescriptor unit dir size off with
    | none => s.refuse .badSize
    | some d => s.serveAccess { desc := d, data := data }

/-- An instruction fetch: refused in either window (R75). -/
def State.serveFetch (s : State) (addr : Nat) : Served :=
  match routeAddr s.cfg addr with
  | .outside => .outside
  | .overlap => .overlap
  | .window _ _ => s.refuse .fetch

/-- One host interaction (R56). -/
def State.serve (s : State) : HostMove → Served
  | .access a => s.serveAccess a
  | .busRead addr size => s.serveBus .read addr size 0
  | .busWrite addr bytes => s.serveBus .write addr bytes.length (BitVec.ofNat 32 (leNat bytes))
  | .fetch addr => s.serveFetch addr
  | .reset unit => .ended (s.resetEvent unit).complete

/-- The next interaction in issue order (R72). -/
def State.serveNext (s : State) : Served :=
  match s.pending with
  | [] => .idle
  | m :: ms => (s.setPending ms).serve m

/-- The bytes a read hands to the host, the least significant at the lowest address (R64). -/
def Reply.bytes : Reply → List Byte
  | .value size v => leBytes size v.toNat
  | .done => []
  | .refused _ => []

end Sys2Proof.Machine
end

