-- ==== Sys2Proof/Machine/Cpucfg.lean ====
section
/-! DEFINITION. The operations of block C that both variants have (spec/43_cpucfg.md R182 to R202). -/

namespace Sys2Proof.Machine

/-- A read of RST_CTRL: the released constant, whatever was written (R182). -/
def State.readRstCtrl (s : State) : State :=
  s.cpucfgResult s.cfg.rstCtrlReleased

/-- A write of RST_CTRL(n): nothing is stored, and every nonzero value calls reset_core(n) (R183). -/
def State.writeRstCtrl (s : State) (n : CoreId) (v : Word) : State :=
  (if v ≠ 0 then s.resetCore n (CpucfgReg.offset s.cfg (.rstCtrl n)) else s).complete

/-- A read of CTRL: a constant (R189). -/
def State.readCtrl (s : State) : State :=
  s.cpucfgResult s.cfg.cpuCtrlRead

/-- A read of STATUS: a constant (R191). -/
def State.readStatus (s : State) : State :=
  s.cpucfgResult s.cfg.cpuStatusRead

/-- A write that is ignored without a diagnostic (R190, R192). -/
def State.ignoreWrite (s : State) (_v : Word) : State :=
  s.complete

/-- `C.R.RST_CTRL0` (R182): `res <- RST_CTRL_RELEASED`. -/
def execCRRstCtrl0 (s : State) : Host.Outcome State Fault Refusal :=
  .next s.readRstCtrl

/-- `C.W.RST_CTRL0` (R183): `if v ≠ 0 then reset_core(0)`. -/
def execCWRstCtrl0 (data : Word) (s : State) : Host.Outcome State Fault Refusal :=
  .next (s.writeRstCtrl 0 data)

/-- `C.R.RST_CTRL1` (R182): `res <- RST_CTRL_RELEASED`. -/
def execCRRstCtrl1 (s : State) : Host.Outcome State Fault Refusal :=
  .next s.readRstCtrl

/-- `C.W.RST_CTRL1` (R183): `if v ≠ 0 then reset_core(1)`. -/
def execCWRstCtrl1 (data : Word) (s : State) : Host.Outcome State Fault Refusal :=
  .next (s.writeRstCtrl 1 data)

/-- `C.R.RST_CTRL2` (R182): `res <- RST_CTRL_RELEASED`. -/
def execCRRstCtrl2 (s : State) : Host.Outcome State Fault Refusal :=
  .next s.readRstCtrl

/-- `C.W.RST_CTRL2` (R183): `if v ≠ 0 then reset_core(2)`. -/
def execCWRstCtrl2 (data : Word) (s : State) : Host.Outcome State Fault Refusal :=
  .next (s.writeRstCtrl 2 data)

/-- `C.R.RST_CTRL3` (R182): `res <- RST_CTRL_RELEASED`. -/
def execCRRstCtrl3 (s : State) : Host.Outcome State Fault Refusal :=
  .next s.readRstCtrl

/-- `C.W.RST_CTRL3` (R183): `if v ≠ 0 then reset_core(3)`. -/
def execCWRstCtrl3 (data : Word) (s : State) : Host.Outcome State Fault Refusal :=
  .next (s.writeRstCtrl 3 data)

/-- `C.R.CTRL0` (R189): `res <- CPU_CTRL_READ`. -/
def execCRCtrl0 (s : State) : Host.Outcome State Fault Refusal :=
  .next s.readCtrl

/-- `C.W.CTRL0` (R190): ignored. -/
def execCWCtrl0 (data : Word) (s : State) : Host.Outcome State Fault Refusal :=
  .next (s.ignoreWrite data)

/-- `C.R.CTRL1` (R189): `res <- CPU_CTRL_READ`. -/
def execCRCtrl1 (s : State) : Host.Outcome State Fault Refusal :=
  .next s.readCtrl

/-- `C.W.CTRL1` (R190): ignored. -/
def execCWCtrl1 (data : Word) (s : State) : Host.Outcome State Fault Refusal :=
  .next (s.ignoreWrite data)

/-- `C.R.CTRL2` (R189): `res <- CPU_CTRL_READ`. -/
def execCRCtrl2 (s : State) : Host.Outcome State Fault Refusal :=
  .next s.readCtrl

/-- `C.W.CTRL2` (R190): ignored. -/
def execCWCtrl2 (data : Word) (s : State) : Host.Outcome State Fault Refusal :=
  .next (s.ignoreWrite data)

/-- `C.R.CTRL3` (R189): `res <- CPU_CTRL_READ`. -/
def execCRCtrl3 (s : State) : Host.Outcome State Fault Refusal :=
  .next s.readCtrl

/-- `C.W.CTRL3` (R190): ignored. -/
def execCWCtrl3 (data : Word) (s : State) : Host.Outcome State Fault Refusal :=
  .next (s.ignoreWrite data)

/-- `C.R.STATUS0` (R191): `res <- CPU_STATUS_READ`. -/
def execCRStatus0 (s : State) : Host.Outcome State Fault Refusal :=
  .next s.readStatus

/-- `C.W.STATUS0` (R192): ignored. -/
def execCWStatus0 (data : Word) (s : State) : Host.Outcome State Fault Refusal :=
  .next (s.ignoreWrite data)

/-- `C.R.STATUS1` (R191): `res <- CPU_STATUS_READ`. -/
def execCRStatus1 (s : State) : Host.Outcome State Fault Refusal :=
  .next s.readStatus

/-- `C.W.STATUS1` (R192): ignored. -/
def execCWStatus1 (data : Word) (s : State) : Host.Outcome State Fault Refusal :=
  .next (s.ignoreWrite data)

/-- `C.R.STATUS2` (R191): `res <- CPU_STATUS_READ`. -/
def execCRStatus2 (s : State) : Host.Outcome State Fault Refusal :=
  .next s.readStatus

/-- `C.W.STATUS2` (R192): ignored. -/
def execCWStatus2 (data : Word) (s : State) : Host.Outcome State Fault Refusal :=
  .next (s.ignoreWrite data)

/-- `C.R.STATUS3` (R191): `res <- CPU_STATUS_READ`. -/
def execCRStatus3 (s : State) : Host.Outcome State Fault Refusal :=
  .next s.readStatus

/-- `C.W.STATUS3` (R192): ignored. -/
def execCWStatus3 (data : Word) (s : State) : Host.Outcome State Fault Refusal :=
  .next (s.ignoreWrite data)

/-- `C.R.GEN_CTRL` (R193): `res <- C.GEN_CTRL`. -/
def execCRGenCtrl (s : State) : Host.Outcome State Fault Refusal :=
  .next (s.cpucfgResult s.cpucfg.genCtrl)

/-- `C.W.GEN_CTRL` (R194): `C.GEN_CTRL <- v`. -/
def execCWGenCtrl (data : Word) (s : State) : Host.Outcome State Fault Refusal :=
  .next (s.setCpucfg { s.cpucfg with genCtrl := data }).complete

/-- `C.R.SUPER_STANDBY` (R195): `res <- C.SUPER_STANDBY`. -/
def execCRSuperStandby (s : State) : Host.Outcome State Fault Refusal :=
  .next (s.cpucfgResult s.cpucfg.superStandby)

/-- `C.W.SUPER_STANDBY` (R196): `C.SUPER_STANDBY <- v`. -/
def execCWSuperStandby (data : Word) (s : State) : Host.Outcome State Fault Refusal :=
  .next (s.setCpucfg { s.cpucfg with superStandby := data }).complete

/-- `C.R.ENTRY_ADDR` (R197): `res <- C.ENTRY_ADDR`. -/
def execCREntryAddr (s : State) : Host.Outcome State Fault Refusal :=
  .next (s.cpucfgResult s.cpucfg.entryAddr)

/-- `C.W.ENTRY_ADDR` (R198): `C.ENTRY_ADDR <- v`. -/
def execCWEntryAddr (data : Word) (s : State) : Host.Outcome State Fault Refusal :=
  .next (s.setCpucfg { s.cpucfg with entryAddr := data }).complete

/-- `C.R.UNIMP` at 0x1E4 (R199): an Unimplemented diagnostic; `res <- 0`. -/
def execCRUnimpDbgExtern (s : State) : Host.Outcome State Fault Refusal :=
  .next (s.cpucfgRejectRead .unimp (UnimpReg.offset .dbgExtern))

/-- `C.W.UNIMP` at 0x1E4 (R200): an Unimplemented diagnostic and nothing else. -/
def execCWUnimpDbgExtern (data : Word) (s : State) : Host.Outcome State Fault Refusal :=
  .next (s.cpucfgRejectWrite .unimp (UnimpReg.offset .dbgExtern) data)

/-- `C.R.UNIMP` at 0x280 (R199): an Unimplemented diagnostic; `res <- 0`. -/
def execCRUnimpCnt64Ctrl (s : State) : Host.Outcome State Fault Refusal :=
  .next (s.cpucfgRejectRead .unimp (UnimpReg.offset .cnt64Ctrl))

/-- `C.W.UNIMP` at 0x280 (R200): an Unimplemented diagnostic and nothing else. -/
def execCWUnimpCnt64Ctrl (data : Word) (s : State) : Host.Outcome State Fault Refusal :=
  .next (s.cpucfgRejectWrite .unimp (UnimpReg.offset .cnt64Ctrl) data)

/-- `C.R.UNIMP` at 0x284 (R199): an Unimplemented diagnostic; `res <- 0`. -/
def execCRUnimpCnt64Low (s : State) : Host.Outcome State Fault Refusal :=
  .next (s.cpucfgRejectRead .unimp (UnimpReg.offset .cnt64Low))

/-- `C.W.UNIMP` at 0x284 (R200): an Unimplemented diagnostic and nothing else. -/
def execCWUnimpCnt64Low (data : Word) (s : State) : Host.Outcome State Fault Refusal :=
  .next (s.cpucfgRejectWrite .unimp (UnimpReg.offset .cnt64Low) data)

/-- `C.R.UNIMP` at 0x288 (R199): an Unimplemented diagnostic; `res <- 0`. -/
def execCRUnimpCnt64High (s : State) : Host.Outcome State Fault Refusal :=
  .next (s.cpucfgRejectRead .unimp (UnimpReg.offset .cnt64High))

/-- `C.W.UNIMP` at 0x288 (R200): an Unimplemented diagnostic and nothing else. -/
def execCWUnimpCnt64High (data : Word) (s : State) : Host.Outcome State Fault Refusal :=
  .next (s.cpucfgRejectWrite .unimp (UnimpReg.offset .cnt64High) data)

/-- `C.R.UNKNOWN` (R201): a guest error; `res <- 0`. -/
def execCRUnknown (off : Offset) (s : State) : Host.Outcome State Fault Refusal :=
  .next (s.cpucfgRejectRead .unknownOffset off)

/-- `C.W.UNKNOWN` (R202): a guest error and nothing else. -/
def execCWUnknown (off : Offset) (data : Word) (s : State) : Host.Outcome State Fault Refusal :=
  .next (s.cpucfgRejectWrite .unknownOffset off data)

end Sys2Proof.Machine
end

