-- ==== Sys2Proof/Machine/CpucfgR40.lean ====
section
/-! DEFINITION. The operations of the fourteen r40 registers (spec/43_cpucfg.md R203 to R217). In the base variant the
decoder never gives one of them; run there, such an operation does what R218 says of the slot: it is an unknown offset. DEDUCED
(log 13), safe. -/

namespace Sys2Proof.Machine

/-- A read of an r40 register (R204, R206, R210, R212, R214, R216); in the base variant, of an unknown offset (R218). -/
def State.readR40 (s : State) (r : R40Reg) : State :=
  match s.cfg.variant with
  | .r40 => s.cpucfgResult (readReg40 s.cpucfg.r40 r)
  | .base => s.cpucfgRejectRead .unknownOffset (r40Offset s.cfg.r40Layout r)

/-- The store of an r40 register. -/
def State.storeR40 (s : State) (r : R40Reg) (v : Word) : State :=
  s.setCpucfg { s.cpucfg with r40 := writeReg40 s.cpucfg.r40 r v }

/-- A write of an r40 register that only stores (R205, R211, R213, R215, R217); in the base variant, of an unknown
offset (R218). -/
def State.writeR40 (s : State) (r : R40Reg) (v : Word) : State :=
  match s.cfg.variant with
  | .r40 => (s.storeR40 r v).complete
  | .base => s.cpucfgRejectWrite .unknownOffset (r40Offset s.cfg.r40Layout r) v

/-- A write of PSW[n]: the store, then power_switch(n, off) for 0x000000FF and power_switch(n, on) for 0x00000000, the
value compared as a whole word (R207); in the base variant, of an unknown offset (R218). -/
def State.writePsw (s : State) (n : CoreId) (v : Word) : State :=
  match s.cfg.variant with
  | .r40 =>
    let stored := s.storeR40 (.psw n) v
    (if v = 0x000000FF then stored.powerSwitchOff n (r40Offset s.cfg.r40Layout (.psw n))
     else if v = 0x00000000 then stored.powerSwitchOn n
     else stored).complete
  | .base => s.cpucfgRejectWrite .unknownOffset (r40Offset s.cfg.r40Layout (.psw n)) v

/-- `C.R.PWROFF_GATING` (R204): `res <- C.PWROFF_GATING`. -/
def execCRPwroffGating (s : State) : Host.Outcome State Fault Refusal :=
  .next (s.readR40 .pwroffGating)

/-- `C.W.PWROFF_GATING` (R205): `C.PWROFF_GATING <- v`. -/
def execCWPwroffGating (data : Word) (s : State) : Host.Outcome State Fault Refusal :=
  .next (s.writeR40 .pwroffGating data)

/-- `C.R.PSW0` (R206): `res <- C.PSW[0]`. -/
def execCRPsw0 (s : State) : Host.Outcome State Fault Refusal :=
  .next (s.readR40 (.psw 0))

/-- `C.W.PSW0` (R207): `C.PSW[0] <- v`, then power_switch(0, off) or power_switch(0, on). -/
def execCWPsw0 (data : Word) (s : State) : Host.Outcome State Fault Refusal :=
  .next (s.writePsw 0 data)

/-- `C.R.PSW1` (R206): `res <- C.PSW[1]`. -/
def execCRPsw1 (s : State) : Host.Outcome State Fault Refusal :=
  .next (s.readR40 (.psw 1))

/-- `C.W.PSW1` (R207): `C.PSW[1] <- v`, then power_switch(1, off) or power_switch(1, on). -/
def execCWPsw1 (data : Word) (s : State) : Host.Outcome State Fault Refusal :=
  .next (s.writePsw 1 data)

/-- `C.R.PSW2` (R206): `res <- C.PSW[2]`. -/
def execCRPsw2 (s : State) : Host.Outcome State Fault Refusal :=
  .next (s.readR40 (.psw 2))

/-- `C.W.PSW2` (R207): `C.PSW[2] <- v`, then power_switch(2, off) or power_switch(2, on). -/
def execCWPsw2 (data : Word) (s : State) : Host.Outcome State Fault Refusal :=
  .next (s.writePsw 2 data)

/-- `C.R.PSW3` (R206): `res <- C.PSW[3]`. -/
def execCRPsw3 (s : State) : Host.Outcome State Fault Refusal :=
  .next (s.readR40 (.psw 3))

/-- `C.W.PSW3` (R207): `C.PSW[3] <- v`, then power_switch(3, off) or power_switch(3, on). -/
def execCWPsw3 (data : Word) (s : State) : Host.Outcome State Fault Refusal :=
  .next (s.writePsw 3 data)

/-- `C.R.PSW_DELAY` (R210): `res <- C.PSW_DELAY`. -/
def execCRPswDelay (s : State) : Host.Outcome State Fault Refusal :=
  .next (s.readR40 .pswDelay)

/-- `C.W.PSW_DELAY` (R211): `C.PSW_DELAY <- v`. -/
def execCWPswDelay (data : Word) (s : State) : Host.Outcome State Fault Refusal :=
  .next (s.writeR40 .pswDelay data)

/-- `C.R.CFG_DELAY` (R212): `res <- C.CFG_DELAY`. -/
def execCRCfgDelay (s : State) : Host.Outcome State Fault Refusal :=
  .next (s.readR40 .cfgDelay)

/-- `C.W.CFG_DELAY` (R213): `C.CFG_DELAY <- v`. -/
def execCWCfgDelay (data : Word) (s : State) : Host.Outcome State Fault Refusal :=
  .next (s.writeR40 .cfgDelay data)

/-- `C.R.PWRDN_CFG` (R214): `res <- C.PWRDN_CFG`. -/
def execCRPwrdnCfg (s : State) : Host.Outcome State Fault Refusal :=
  .next (s.readR40 .pwrdnCfg)

/-- `C.W.PWRDN_CFG` (R215): `C.PWRDN_CFG <- v`. -/
def execCWPwrdnCfg (data : Word) (s : State) : Host.Outcome State Fault Refusal :=
  .next (s.writeR40 .pwrdnCfg data)

/-- `C.R.PWRUP_CFG0` (R216): `res <- C.PWRUP_CFG[0]`. -/
def execCRPwrupCfg0 (s : State) : Host.Outcome State Fault Refusal :=
  .next (s.readR40 (.pwrupCfg 0))

/-- `C.W.PWRUP_CFG0` (R217): `C.PWRUP_CFG[0] <- v`. -/
def execCWPwrupCfg0 (data : Word) (s : State) : Host.Outcome State Fault Refusal :=
  .next (s.writeR40 (.pwrupCfg 0) data)

/-- `C.R.PWRUP_CFG1` (R216): `res <- C.PWRUP_CFG[1]`. -/
def execCRPwrupCfg1 (s : State) : Host.Outcome State Fault Refusal :=
  .next (s.readR40 (.pwrupCfg 1))

/-- `C.W.PWRUP_CFG1` (R217): `C.PWRUP_CFG[1] <- v`. -/
def execCWPwrupCfg1 (data : Word) (s : State) : Host.Outcome State Fault Refusal :=
  .next (s.writeR40 (.pwrupCfg 1) data)

/-- `C.R.PWRUP_CFG2` (R216): `res <- C.PWRUP_CFG[2]`. -/
def execCRPwrupCfg2 (s : State) : Host.Outcome State Fault Refusal :=
  .next (s.readR40 (.pwrupCfg 2))

/-- `C.W.PWRUP_CFG2` (R217): `C.PWRUP_CFG[2] <- v`. -/
def execCWPwrupCfg2 (data : Word) (s : State) : Host.Outcome State Fault Refusal :=
  .next (s.writeR40 (.pwrupCfg 2) data)

/-- `C.R.PWRUP_CFG3` (R216): `res <- C.PWRUP_CFG[3]`. -/
def execCRPwrupCfg3 (s : State) : Host.Outcome State Fault Refusal :=
  .next (s.readR40 (.pwrupCfg 3))

/-- `C.W.PWRUP_CFG3` (R217): `C.PWRUP_CFG[3] <- v`. -/
def execCWPwrupCfg3 (data : Word) (s : State) : Host.Outcome State Fault Refusal :=
  .next (s.writeR40 (.pwrupCfg 3) data)

/-- `C.R.PWRUP_CFG4` (R216): `res <- C.PWRUP_CFG[4]`. -/
def execCRPwrupCfg4 (s : State) : Host.Outcome State Fault Refusal :=
  .next (s.readR40 (.pwrupCfg 4))

/-- `C.W.PWRUP_CFG4` (R217): `C.PWRUP_CFG[4] <- v`. -/
def execCWPwrupCfg4 (data : Word) (s : State) : Host.Outcome State Fault Refusal :=
  .next (s.writeR40 (.pwrupCfg 4) data)

/-- `C.R.PWRUP_CFG5` (R216): `res <- C.PWRUP_CFG[5]`. -/
def execCRPwrupCfg5 (s : State) : Host.Outcome State Fault Refusal :=
  .next (s.readR40 (.pwrupCfg 5))

/-- `C.W.PWRUP_CFG5` (R217): `C.PWRUP_CFG[5] <- v`. -/
def execCWPwrupCfg5 (data : Word) (s : State) : Host.Outcome State Fault Refusal :=
  .next (s.writeR40 (.pwrupCfg 5) data)

end Sys2Proof.Machine
end

