-- ==== Sys2Proof/Machine/SpiBurst.lean ====
section
/-! DEFINITION. The transfer-control write, which runs the burst engine (spec/42_spi_burst.md R160 to R165). -/

namespace Sys2Proof.Machine

/-- The store step of a TCR write: `S.TCR <- v & ~BIT(TCR_XCH_BIT)` (R165). -/
def State.storeTcr (s : State) (v : Word) : State :=
  s.setSpi { s.spi with tcr := clearBit s.cfg.tcrXchBit v }

/-- `S.W.TCR` (R160): the burst if the XCH bit of v is set, then the store. -/
def execSWTcr (sz : SpiSize) (data : Word) (s : State) : Host.Outcome State Fault Refusal :=
  let v := writeValue sz data
  .next ((if v.getLsbD s.cfg.tcrXchBit then s.burst else s).storeTcr v).complete

end Sys2Proof.Machine
end

