-- ==== Sys2Proof/Machine/SpiRegs.lean ====
section
/-! DEFINITION. The register operations of block S other than the TCR write (spec/41_spi_registers.md R122 to R150). -/

namespace Sys2Proof.Machine

/-- `S.R.GCR` (R122): `res <- S.GCR`. -/
def execSRGcr (sz : SpiSize) (s : State) : Host.Outcome State Fault Refusal :=
  .next (s.spiResult sz s.spi.gcr)

/-- `S.W.GCR` (R123): `S.GCR <- v`, all 32 bits (R121). -/
def execSWGcr (sz : SpiSize) (data : Word) (s : State) : Host.Outcome State Fault Refusal :=
  .next (s.setSpi { s.spi with gcr := writeValue sz data }).complete

/-- `S.R.TCR` (R124): `res <- S.TCR`. -/
def execSRTcr (sz : SpiSize) (s : State) : Host.Outcome State Fault Refusal :=
  .next (s.spiResult sz s.spi.tcr)

/-- `S.R.IER` (R125): `res <- S.IER`. -/
def execSRIer (sz : SpiSize) (s : State) : Host.Outcome State Fault Refusal :=
  .next (s.spiResult sz s.spi.ier)

/-- `S.W.IER` (R126): `S.IER <- v`, all 32 bits (R121). -/
def execSWIer (sz : SpiSize) (data : Word) (s : State) : Host.Outcome State Fault Refusal :=
  .next (s.setSpi { s.spi with ier := writeValue sz data }).complete

/-- `S.R.ISR` (R127): `res <- S.ISR`. -/
def execSRIsr (sz : SpiSize) (s : State) : Host.Outcome State Fault Refusal :=
  .next (s.spiResult sz s.spi.isr)

/-- `S.W.ISR` (R128): `S.ISR <- v`, all 32 bits (R121). -/
def execSWIsr (sz : SpiSize) (data : Word) (s : State) : Host.Outcome State Fault Refusal :=
  .next (s.setSpi { s.spi with isr := writeValue sz data }).complete

/-- `S.R.FCR` (R129): `res <- S.FCR`. -/
def execSRFcr (sz : SpiSize) (s : State) : Host.Outcome State Fault Refusal :=
  .next (s.spiResult sz s.spi.fcr)

/-- The effect of a FIFO-control write on block S: each queue whose reset bit is set is emptied, and the register
keeps the value written with both bits cleared (R130). -/
def spiFcrWrite (cfg : Config) (b : SpiBlock) (v : Word) : SpiBlock :=
  { b with
    tx := if v.getLsbD cfg.fcrTfRstBit then b.tx.reset else b.tx
    rx := if v.getLsbD cfg.fcrRfRstBit then b.rx.reset else b.rx
    fcr := clearBit cfg.fcrRfRstBit (clearBit cfg.fcrTfRstBit v) }

/-- `S.W.FCR` (R130). -/
def execSWFcr (sz : SpiSize) (data : Word) (s : State) : Host.Outcome State Fault Refusal :=
  .next (s.setSpi (spiFcrWrite s.cfg s.spi (writeValue sz data))).complete

/-- `S.R.FSR` (R131): `res <- (q_count(S.TX)[7:0] << 16) | q_count(S.RX)[7:0]`; nothing is popped. -/
def execSRFsr (sz : SpiSize) (s : State) : Host.Outcome State Fault Refusal :=
  .next (s.spiResult sz (fsrWord s.spi.tx s.spi.rx))

/-- `S.W.FSR` (R132): a guest error and nothing else. -/
def execSWFsr (sz : SpiSize) (data : Word) (s : State) : Host.Outcome State Fault Refusal :=
  .next (s.spiRejectWrite .roWrite SpiReg.fsr.offset (writeValue sz data))

/-- `S.R.WCR` (R133): `res <- S.WCR`. -/
def execSRWcr (sz : SpiSize) (s : State) : Host.Outcome State Fault Refusal :=
  .next (s.spiResult sz s.spi.wcr)

/-- `S.W.WCR` (R134): `S.WCR <- v`, all 32 bits (R121). -/
def execSWWcr (sz : SpiSize) (data : Word) (s : State) : Host.Outcome State Fault Refusal :=
  .next (s.setSpi { s.spi with wcr := writeValue sz data }).complete

/-- `S.R.CCR` (R135): `res <- S.CCR`. -/
def execSRCcr (sz : SpiSize) (s : State) : Host.Outcome State Fault Refusal :=
  .next (s.spiResult sz s.spi.ccr)

/-- `S.W.CCR` (R136): `S.CCR <- v`, all 32 bits (R121). -/
def execSWCcr (sz : SpiSize) (data : Word) (s : State) : Host.Outcome State Fault Refusal :=
  .next (s.setSpi { s.spi with ccr := writeValue sz data }).complete

/-- `S.R.MBC` (R137): `res <- S.MBC`. -/
def execSRMbc (sz : SpiSize) (s : State) : Host.Outcome State Fault Refusal :=
  .next (s.spiResult sz s.spi.mbc)

/-- `S.W.MBC` (R138): `S.MBC <- v`, all 32 bits (R121). -/
def execSWMbc (sz : SpiSize) (data : Word) (s : State) : Host.Outcome State Fault Refusal :=
  .next (s.setSpi { s.spi with mbc := writeValue sz data }).complete

/-- `S.R.MTC` (R139): `res <- S.MTC`. -/
def execSRMtc (sz : SpiSize) (s : State) : Host.Outcome State Fault Refusal :=
  .next (s.spiResult sz s.spi.mtc)

/-- `S.W.MTC` (R140): `S.MTC <- v`, all 32 bits (R121). -/
def execSWMtc (sz : SpiSize) (data : Word) (s : State) : Host.Outcome State Fault Refusal :=
  .next (s.setSpi { s.spi with mtc := writeValue sz data }).complete

/-- `S.R.BCC` (R141): `res <- S.BCC`. -/
def execSRBcc (sz : SpiSize) (s : State) : Host.Outcome State Fault Refusal :=
  .next (s.spiResult sz s.spi.bcc)

/-- `S.W.BCC` (R142): `S.BCC <- v`, all 32 bits (R121). -/
def execSWBcc (sz : SpiSize) (data : Word) (s : State) : Host.Outcome State Fault Refusal :=
  .next (s.setSpi { s.spi with bcc := writeValue sz data }).complete

/-- `S.R.DMACTL` (R143): `res <- S.DMACTL`. -/
def execSRDmactl (sz : SpiSize) (s : State) : Host.Outcome State Fault Refusal :=
  .next (s.spiResult sz s.spi.dmactl)

/-- `S.W.DMACTL` (R144): `S.DMACTL <- v`, all 32 bits (R121). -/
def execSWDmactl (sz : SpiSize) (data : Word) (s : State) : Host.Outcome State Fault Refusal :=
  .next (s.setSpi { s.spi with dmactl := writeValue sz data }).complete

/-- `S.R.TXD` (R146): a guest error; `res <- 0`, and S.TX is not popped. -/
def execSRTxd (sz : SpiSize) (s : State) : Host.Outcome State Fault Refusal :=
  .next (s.spiRejectRead sz .woRead SpiReg.txd.offset)

/-- `S.W.TXD` (R145): `q_push(S.TX, v)`; dropped silently when S.TX is full. -/
def execSWTxd (sz : SpiSize) (data : Word) (s : State) : Host.Outcome State Fault Refusal :=
  .next (s.setSpi { s.spi with tx := s.spi.tx.push (writeValue sz data) }).complete

/-- `S.R.RXD` (R147): `res <- q_pop(S.RX)`; a sub-word read still pops a whole word. -/
def execSRRxd (sz : SpiSize) (s : State) : Host.Outcome State Fault Refusal :=
  .next ((s.setSpi { s.spi with rx := s.spi.rx.pop.2 }).spiResult sz s.spi.rx.pop.1)

/-- `S.W.RXD` (R148): a guest error and nothing else. -/
def execSWRxd (sz : SpiSize) (data : Word) (s : State) : Host.Outcome State Fault Refusal :=
  .next (s.spiRejectWrite .roWrite SpiReg.rxd.offset (writeValue sz data))

/-- `S.R.UNKNOWN` (R149): a guest error; `res <- 0`. -/
def execSRUnknown (sz : SpiSize) (off : Offset) (s : State) : Host.Outcome State Fault Refusal :=
  .next (s.spiRejectRead sz .unknownOffset off)

/-- `S.W.UNKNOWN` (R150): a guest error and nothing else. -/
def execSWUnknown (sz : SpiSize) (off : Offset) (data : Word) (s : State) : Host.Outcome State Fault Refusal :=
  .next (s.spiRejectWrite .unknownOffset off (writeValue sz data))

end Sys2Proof.Machine
end

