-- ==== Sys2Proof/Machine/Dispatch.lean ====
section
/-! DEFINITION. One arm for each operation of the two blocks. -/

namespace Sys2Proof.Machine

def exec (i : Instr) (s : State) : Host.Outcome State Fault Refusal :=
  match i with
  | .sRGcr sz => Sys2Proof.Machine.execSRGcr sz s
  | .sWGcr sz data => Sys2Proof.Machine.execSWGcr sz data s
  | .sRTcr sz => Sys2Proof.Machine.execSRTcr sz s
  | .sWTcr sz data => Sys2Proof.Machine.execSWTcr sz data s
  | .sRIer sz => Sys2Proof.Machine.execSRIer sz s
  | .sWIer sz data => Sys2Proof.Machine.execSWIer sz data s
  | .sRIsr sz => Sys2Proof.Machine.execSRIsr sz s
  | .sWIsr sz data => Sys2Proof.Machine.execSWIsr sz data s
  | .sRFcr sz => Sys2Proof.Machine.execSRFcr sz s
  | .sWFcr sz data => Sys2Proof.Machine.execSWFcr sz data s
  | .sRFsr sz => Sys2Proof.Machine.execSRFsr sz s
  | .sWFsr sz data => Sys2Proof.Machine.execSWFsr sz data s
  | .sRWcr sz => Sys2Proof.Machine.execSRWcr sz s
  | .sWWcr sz data => Sys2Proof.Machine.execSWWcr sz data s
  | .sRCcr sz => Sys2Proof.Machine.execSRCcr sz s
  | .sWCcr sz data => Sys2Proof.Machine.execSWCcr sz data s
  | .sRMbc sz => Sys2Proof.Machine.execSRMbc sz s
  | .sWMbc sz data => Sys2Proof.Machine.execSWMbc sz data s
  | .sRMtc sz => Sys2Proof.Machine.execSRMtc sz s
  | .sWMtc sz data => Sys2Proof.Machine.execSWMtc sz data s
  | .sRBcc sz => Sys2Proof.Machine.execSRBcc sz s
  | .sWBcc sz data => Sys2Proof.Machine.execSWBcc sz data s
  | .sRDmactl sz => Sys2Proof.Machine.execSRDmactl sz s
  | .sWDmactl sz data => Sys2Proof.Machine.execSWDmactl sz data s
  | .sRTxd sz => Sys2Proof.Machine.execSRTxd sz s
  | .sWTxd sz data => Sys2Proof.Machine.execSWTxd sz data s
  | .sRRxd sz => Sys2Proof.Machine.execSRRxd sz s
  | .sWRxd sz data => Sys2Proof.Machine.execSWRxd sz data s
  | .sRUnknown sz off => Sys2Proof.Machine.execSRUnknown sz off s
  | .sWUnknown sz off data => Sys2Proof.Machine.execSWUnknown sz off data s
  | .cRRstCtrl0 => Sys2Proof.Machine.execCRRstCtrl0 s
  | .cWRstCtrl0 data => Sys2Proof.Machine.execCWRstCtrl0 data s
  | .cRRstCtrl1 => Sys2Proof.Machine.execCRRstCtrl1 s
  | .cWRstCtrl1 data => Sys2Proof.Machine.execCWRstCtrl1 data s
  | .cRRstCtrl2 => Sys2Proof.Machine.execCRRstCtrl2 s
  | .cWRstCtrl2 data => Sys2Proof.Machine.execCWRstCtrl2 data s
  | .cRRstCtrl3 => Sys2Proof.Machine.execCRRstCtrl3 s
  | .cWRstCtrl3 data => Sys2Proof.Machine.execCWRstCtrl3 data s
  | .cRCtrl0 => Sys2Proof.Machine.execCRCtrl0 s
  | .cWCtrl0 data => Sys2Proof.Machine.execCWCtrl0 data s
  | .cRCtrl1 => Sys2Proof.Machine.execCRCtrl1 s
  | .cWCtrl1 data => Sys2Proof.Machine.execCWCtrl1 data s
  | .cRCtrl2 => Sys2Proof.Machine.execCRCtrl2 s
  | .cWCtrl2 data => Sys2Proof.Machine.execCWCtrl2 data s
  | .cRCtrl3 => Sys2Proof.Machine.execCRCtrl3 s
  | .cWCtrl3 data => Sys2Proof.Machine.execCWCtrl3 data s
  | .cRStatus0 => Sys2Proof.Machine.execCRStatus0 s
  | .cWStatus0 data => Sys2Proof.Machine.execCWStatus0 data s
  | .cRStatus1 => Sys2Proof.Machine.execCRStatus1 s
  | .cWStatus1 data => Sys2Proof.Machine.execCWStatus1 data s
  | .cRStatus2 => Sys2Proof.Machine.execCRStatus2 s
  | .cWStatus2 data => Sys2Proof.Machine.execCWStatus2 data s
  | .cRStatus3 => Sys2Proof.Machine.execCRStatus3 s
  | .cWStatus3 data => Sys2Proof.Machine.execCWStatus3 data s
  | .cRGenCtrl => Sys2Proof.Machine.execCRGenCtrl s
  | .cWGenCtrl data => Sys2Proof.Machine.execCWGenCtrl data s
  | .cRSuperStandby => Sys2Proof.Machine.execCRSuperStandby s
  | .cWSuperStandby data => Sys2Proof.Machine.execCWSuperStandby data s
  | .cREntryAddr => Sys2Proof.Machine.execCREntryAddr s
  | .cWEntryAddr data => Sys2Proof.Machine.execCWEntryAddr data s
  | .cRPwroffGating => Sys2Proof.Machine.execCRPwroffGating s
  | .cWPwroffGating data => Sys2Proof.Machine.execCWPwroffGating data s
  | .cRPsw0 => Sys2Proof.Machine.execCRPsw0 s
  | .cWPsw0 data => Sys2Proof.Machine.execCWPsw0 data s
  | .cRPsw1 => Sys2Proof.Machine.execCRPsw1 s
  | .cWPsw1 data => Sys2Proof.Machine.execCWPsw1 data s
  | .cRPsw2 => Sys2Proof.Machine.execCRPsw2 s
  | .cWPsw2 data => Sys2Proof.Machine.execCWPsw2 data s
  | .cRPsw3 => Sys2Proof.Machine.execCRPsw3 s
  | .cWPsw3 data => Sys2Proof.Machine.execCWPsw3 data s
  | .cRPswDelay => Sys2Proof.Machine.execCRPswDelay s
  | .cWPswDelay data => Sys2Proof.Machine.execCWPswDelay data s
  | .cRCfgDelay => Sys2Proof.Machine.execCRCfgDelay s
  | .cWCfgDelay data => Sys2Proof.Machine.execCWCfgDelay data s
  | .cRPwrdnCfg => Sys2Proof.Machine.execCRPwrdnCfg s
  | .cWPwrdnCfg data => Sys2Proof.Machine.execCWPwrdnCfg data s
  | .cRPwrupCfg0 => Sys2Proof.Machine.execCRPwrupCfg0 s
  | .cWPwrupCfg0 data => Sys2Proof.Machine.execCWPwrupCfg0 data s
  | .cRPwrupCfg1 => Sys2Proof.Machine.execCRPwrupCfg1 s
  | .cWPwrupCfg1 data => Sys2Proof.Machine.execCWPwrupCfg1 data s
  | .cRPwrupCfg2 => Sys2Proof.Machine.execCRPwrupCfg2 s
  | .cWPwrupCfg2 data => Sys2Proof.Machine.execCWPwrupCfg2 data s
  | .cRPwrupCfg3 => Sys2Proof.Machine.execCRPwrupCfg3 s
  | .cWPwrupCfg3 data => Sys2Proof.Machine.execCWPwrupCfg3 data s
  | .cRPwrupCfg4 => Sys2Proof.Machine.execCRPwrupCfg4 s
  | .cWPwrupCfg4 data => Sys2Proof.Machine.execCWPwrupCfg4 data s
  | .cRPwrupCfg5 => Sys2Proof.Machine.execCRPwrupCfg5 s
  | .cWPwrupCfg5 data => Sys2Proof.Machine.execCWPwrupCfg5 data s
  | .cRUnimpDbgExtern => Sys2Proof.Machine.execCRUnimpDbgExtern s
  | .cWUnimpDbgExtern data => Sys2Proof.Machine.execCWUnimpDbgExtern data s
  | .cRUnimpCnt64Ctrl => Sys2Proof.Machine.execCRUnimpCnt64Ctrl s
  | .cWUnimpCnt64Ctrl data => Sys2Proof.Machine.execCWUnimpCnt64Ctrl data s
  | .cRUnimpCnt64Low => Sys2Proof.Machine.execCRUnimpCnt64Low s
  | .cWUnimpCnt64Low data => Sys2Proof.Machine.execCWUnimpCnt64Low data s
  | .cRUnimpCnt64High => Sys2Proof.Machine.execCRUnimpCnt64High s
  | .cWUnimpCnt64High data => Sys2Proof.Machine.execCWUnimpCnt64High data s
  | .cRUnknown off => Sys2Proof.Machine.execCRUnknown off s
  | .cWUnknown off data => Sys2Proof.Machine.execCWUnknown off data s

end Sys2Proof.Machine
end

