-- ==== Sys2Proof/Machine/Step.lean ====
section
/-! DEFINITION. One step: the next host interaction, served to completion (spec/00_scope.md R13; spec/20_memory.md R70). -/

namespace Sys2Proof.Machine

/-- One host interaction, atomic and complete (R13). With none left the machine waits: DESIGN CHOICE (log 9),
safe. -/
def step (s : State) : Host.Outcome State Fault Refusal :=
  match s.serveNext with
  | .idle => .next s
  | .ended t => .next t
  | .run i t => exec i t
  | .overlap => .fault .windowsOverlap
  | .outside => .refused .outsideWindows

/-- `s` with an opcode-table word as the next access the host issues, before any other interaction still to be served.
DESIGN CHOICE (log 10), safe. -/
def State.withFetchWord (s : State) (nbits w : Nat) : State :=
  s.setPending (.access (tableAccess nbits w) :: s.pending)

end Sys2Proof.Machine
end

