-- ==== Sys2Proof/Machine/Fields.lean ====
section
/-! DEFINITION. The bit fields of the S registers (spec/10_state.md R30 to R41). Every position but those of FSR and of
MBC[23:0] is, in the spec's words, from general knowledge and not in source. Apart from the self-clearing bits, whose
positions are parameters of `Config`, no operation reads a field: the tables say how a register's word is read. A range
the source does not name has the empty name. -/

namespace Sys2Proof.Machine

/-- One field of a register: bits `hi:lo`, and its value after reset. -/
structure Field where
  name : String
  hi : Nat
  lo : Nat
  reset : Nat
deriving DecidableEq, Repr

/-- The number of bits of a field. -/
def Field.width (f : Field) : Nat :=
  f.hi - f.lo + 1

/-- `v[hi:lo]` as a number (R9). -/
def Field.of (f : Field) (v : Word) : Nat :=
  v.toNat / 2 ^ f.lo % 2 ^ f.width

/-- The 32-bit word an S register reads as without popping or logging: the stored word, or FSR's computed one. The
queue ports hold none (R27). -/
def spiWord (b : SpiBlock) : SpiReg → Option Word
  | .gcr => some b.gcr
  | .tcr => some b.tcr
  | .ier => some b.ier
  | .isr => some b.isr
  | .fcr => some b.fcr
  | .fsr => some (fsrWord b.tx b.rx)
  | .wcr => some b.wcr
  | .ccr => some b.ccr
  | .mbc => some b.mbc
  | .mtc => some b.mtc
  | .bcc => some b.bcc
  | .dmactl => some b.dmactl
  | .txd => none
  | .rxd => none

/-- The fields of GCR (R30). -/
def gcrFields : List Field :=
  [⟨"EN", 0, 0, 0⟩,
   ⟨"MODE", 1, 1, 0⟩,
   ⟨"", 6, 2, 0⟩,
   ⟨"TP_EN", 7, 7, 1⟩,
   ⟨"", 30, 8, 0⟩,
   ⟨"SRST", 31, 31, 0⟩]

/-- The fields of TCR (R31). -/
def tcrFields : List Field :=
  [⟨"CPHA", 0, 0, 1⟩,
   ⟨"CPOL", 1, 1, 1⟩,
   ⟨"SPOL", 2, 2, 1⟩,
   ⟨"SSCTL", 3, 3, 0⟩,
   ⟨"SS_SEL", 5, 4, 0⟩,
   ⟨"SS_OWNER", 6, 6, 0⟩,
   ⟨"SS_LEVEL", 7, 7, 1⟩,
   ⟨"DHB", 8, 8, 0⟩,
   ⟨"DDB", 9, 9, 0⟩,
   ⟨"RPSM", 10, 10, 0⟩,
   ⟨"SDC", 11, 11, 0⟩,
   ⟨"FBS", 12, 12, 0⟩,
   ⟨"SDM", 13, 13, 0⟩,
   ⟨"", 30, 14, 0⟩,
   ⟨"XCH", 31, 31, 0⟩]

/-- The fields of IER (R32). -/
def ierFields : List Field :=
  [⟨"RX_RDY_INT_EN", 0, 0, 0⟩,
   ⟨"RX_EMP_INT_EN", 1, 1, 0⟩,
   ⟨"RX_FULL_INT_EN", 2, 2, 0⟩,
   ⟨"", 3, 3, 0⟩,
   ⟨"TX_ERQ_INT_EN", 4, 4, 0⟩,
   ⟨"TX_EMP_INT_EN", 5, 5, 0⟩,
   ⟨"TX_FULL_INT_EN", 6, 6, 0⟩,
   ⟨"", 7, 7, 0⟩,
   ⟨"RF_OVF_INT_EN", 8, 8, 0⟩,
   ⟨"RF_UDR_INT_EN", 9, 9, 0⟩,
   ⟨"TF_OVF_INT_EN", 10, 10, 0⟩,
   ⟨"TF_UDR_INT_EN", 11, 11, 0⟩,
   ⟨"TC_INT_EN", 12, 12, 0⟩,
   ⟨"SS_INT_EN", 13, 13, 0⟩,
   ⟨"", 31, 14, 0⟩]

/-- The fields of ISR (R33). -/
def isrFields : List Field :=
  [⟨"RX_RDY", 0, 0, 0⟩,
   ⟨"RX_EMP", 1, 1, 1⟩,
   ⟨"RX_FULL", 2, 2, 0⟩,
   ⟨"", 3, 3, 0⟩,
   ⟨"TX_READY", 4, 4, 1⟩,
   ⟨"TX_EMP", 5, 5, 1⟩,
   ⟨"TX_FULL", 6, 6, 0⟩,
   ⟨"", 7, 7, 0⟩,
   ⟨"RX_OVF", 8, 8, 0⟩,
   ⟨"RX_UDR", 9, 9, 0⟩,
   ⟨"TX_OVF", 10, 10, 0⟩,
   ⟨"TX_UDR", 11, 11, 0⟩,
   ⟨"TC", 12, 12, 0⟩,
   ⟨"SSI", 13, 13, 0⟩,
   ⟨"", 31, 14, 0⟩]

/-- The fields of FCR (R34). -/
def fcrFields : List Field :=
  [⟨"RX_TRIG_LEVEL", 7, 0, 1⟩,
   ⟨"RF_DRQ_EN", 8, 8, 0⟩,
   ⟨"", 14, 9, 0⟩,
   ⟨"RF_RST", 15, 15, 0⟩,
   ⟨"TX_TRIG_LEVEL", 23, 16, 0x40⟩,
   ⟨"TF_DRQ_EN", 24, 24, 0⟩,
   ⟨"", 30, 25, 0⟩,
   ⟨"TF_RST", 31, 31, 0⟩]

/-- The fields of FSR (R35). -/
def fsrFields : List Field :=
  [⟨"RF_CNT", 7, 0, 0⟩,
   ⟨"", 15, 8, 0⟩,
   ⟨"TF_CNT", 23, 16, 0⟩,
   ⟨"", 31, 24, 0⟩]

/-- The fields of WCR (R36). -/
def wcrFields : List Field :=
  [⟨"WCC", 15, 0, 0⟩,
   ⟨"SWC", 19, 16, 0⟩,
   ⟨"", 31, 20, 0⟩]

/-- The fields of CCR (R37). -/
def ccrFields : List Field :=
  [⟨"CDR2", 7, 0, 2⟩,
   ⟨"CDR1", 11, 8, 0⟩,
   ⟨"DRS", 12, 12, 0⟩,
   ⟨"", 31, 13, 0⟩]

/-- The fields of MBC (R38). -/
def mbcFields : List Field :=
  [⟨"BURST_LENGTH", 23, 0, 0⟩,
   ⟨"", 31, 24, 0⟩]

/-- The fields of MTC (R39). -/
def mtcFields : List Field :=
  [⟨"MWTC", 23, 0, 0⟩,
   ⟨"", 31, 24, 0⟩]

/-- The fields of BCC (R40). -/
def bccFields : List Field :=
  [⟨"STC", 23, 0, 0⟩,
   ⟨"DBC", 27, 24, 0⟩,
   ⟨"DRM", 28, 28, 0⟩,
   ⟨"", 31, 29, 0⟩]

/-- The fields of DMACTL (R41). -/
def dmactlFields : List Field :=
  [⟨"DMA_WAIT", 4, 0, 5⟩,
   ⟨"ACK_M", 5, 5, 1⟩,
   ⟨"ACT_M", 7, 6, 2⟩,
   ⟨"", 31, 8, 0⟩]

/-- The fields of a register of S, lowest first (R30 to R41). -/
def spiFields : SpiReg → List Field
  | .gcr => gcrFields
  | .tcr => tcrFields
  | .ier => ierFields
  | .isr => isrFields
  | .fcr => fcrFields
  | .fsr => fsrFields
  | .wcr => wcrFields
  | .ccr => ccrFields
  | .mbc => mbcFields
  | .mtc => mtcFields
  | .bcc => bccFields
  | .dmactl => dmactlFields
  | .txd => []
  | .rxd => []

/-- The fields follow each other from bit `at_` up to bit 31, none missing and none twice. -/
def fieldsTile : Nat → List Field → Bool
  | at_, [] => at_ == 32
  | at_, f :: fs => f.lo == at_ && f.lo ≤ f.hi && fieldsTile (f.hi + 1) fs

end Sys2Proof.Machine
end

