-- ==== Sys2Proof/Safety.lean ====
section
/-! DEFINITION. The terms that claims about the machine use: the invariant of the reachable states, which block and
direction an operation belongs to, and what it means that an answer was drawn. -/

namespace Sys2Proof.Machine

/-- Block S keeps its queues within the variant's depth (R25, R107) and its self-clearing bits at 0 (R28, R29). -/
structure SpiBlock.Good (cfg : Config) (b : SpiBlock) : Prop where
  txCap : b.tx.cap = cfg.spiDepth.words
  rxCap : b.rx.cap = cfg.spiDepth.words
  txLen : b.tx.items.length ≤ cfg.spiDepth.words
  rxLen : b.rx.items.length ≤ cfg.spiDepth.words
  xch : b.tcr.getLsbD cfg.tcrXchBit = false
  tfRst : b.fcr.getLsbD cfg.fcrTfRstBit = false
  rfRst : b.fcr.getLsbD cfg.fcrRfRstBit = false

/-- The invariant of the reachable states: an admissible configuration and a good block S. -/
structure State.Inv (s : State) : Prop where
  cfgWf : s.cfg.wf = true
  spiGood : s.spi.Good s.cfg

/-- `t` is a state that finitely many steps lead to from `s`. -/
inductive Leads (s : State) : State → Prop where
  | refl : Leads s s
  | tail {t u : State} : Leads s t → Sys2Proof.Machine.step t = .next u → Leads s u

/-- `a` is an answer the environment may give where `script` lists the answers to come, and `rest` is what stays
listed: the first listed answer, or any answer where none is listed. -/
def Drawn {α : Type} (script : List α) (a : α) (rest : List α) : Prop :=
  script = a :: rest ∨ (script = [] ∧ rest = [])

/-- `as` are the answers the environment may give to successive draws where `script` lists the answers to come, and
`rest` is what stays listed: the listed answers in order as far as they reach, then any. -/
def DrawnMany {α : Type} (script as rest : List α) : Prop :=
  as.take script.length = script.take as.length ∧ rest = script.drop as.length

/-- The slice `w[8*size-1:0]`, zero-extended (R9, R66). -/
def sliceLow (sz : SpiSize) (w : Word) : Word :=
  BitVec.ofNat 32 (w.toNat % 2 ^ (8 * sz.bytes))

/-- A diagnostic event (R231). -/
def isDiag : Event → Bool
  | .diag _ _ _ _ => true
  | .exchange _ _ => false
  | .lookup _ _ => false
  | .powerOn _ _ _ _ _ => false
  | .powerOff _ _ => false

/-- An exchange with the attached peripheral (R52). -/
def isExchange : Event → Bool
  | .exchange _ _ => true
  | .diag _ _ _ _ => false
  | .lookup _ _ => false
  | .powerOn _ _ _ _ _ => false
  | .powerOff _ _ => false

/-- A queue primitive that changes the queue, as one move of a sequence (R102 to R104). -/
inductive QueueMove where
  | reset
  | push (w : Word)
  | pop
deriving DecidableEq, Repr

/-- The queue after a primitive. -/
def WordQueue.move (q : WordQueue) : QueueMove → WordQueue
  | .reset => q.reset
  | .push w => q.push w
  | .pop => q.pop.2

/-- The words of `n` successive pops, and the queue after them. -/
def WordQueue.popMany : Nat → WordQueue → List Word × WordQueue
  | 0, q => ([], q)
  | n + 1, q => (q.pop.1 :: (WordQueue.popMany n q.pop.2).1, (WordQueue.popMany n q.pop.2).2)

/-- The value a whole read of a storage register of S returns after a write of `v` (R151). -/
def storedBack (cfg : Config) (v : Word) : SpiReg → Option Word
  | .gcr => some v
  | .tcr => some (v &&& ~~~ bit cfg.tcrXchBit)
  | .ier => some v
  | .isr => some v
  | .fcr => some (v &&& ~~~ (bit cfg.fcrTfRstBit ||| bit cfg.fcrRfRstBit))
  | .fsr => none
  | .wcr => some v
  | .ccr => some v
  | .mbc => some v
  | .mtc => some v
  | .bcc => some v
  | .dmactl => some v
  | .txd => none
  | .rxd => none

/-- The block an operation belongs to (R2). -/
def blockOf : Instr → Block
  | .sRGcr _ => .spi
  | .sWGcr _ _ => .spi
  | .sRTcr _ => .spi
  | .sWTcr _ _ => .spi
  | .sRIer _ => .spi
  | .sWIer _ _ => .spi
  | .sRIsr _ => .spi
  | .sWIsr _ _ => .spi
  | .sRFcr _ => .spi
  | .sWFcr _ _ => .spi
  | .sRFsr _ => .spi
  | .sWFsr _ _ => .spi
  | .sRWcr _ => .spi
  | .sWWcr _ _ => .spi
  | .sRCcr _ => .spi
  | .sWCcr _ _ => .spi
  | .sRMbc _ => .spi
  | .sWMbc _ _ => .spi
  | .sRMtc _ => .spi
  | .sWMtc _ _ => .spi
  | .sRBcc _ => .spi
  | .sWBcc _ _ => .spi
  | .sRDmactl _ => .spi
  | .sWDmactl _ _ => .spi
  | .sRTxd _ => .spi
  | .sWTxd _ _ => .spi
  | .sRRxd _ => .spi
  | .sWRxd _ _ => .spi
  | .sRUnknown _ _ => .spi
  | .sWUnknown _ _ _ => .spi
  | .cRRstCtrl0 => .cpucfg
  | .cWRstCtrl0 _ => .cpucfg
  | .cRRstCtrl1 => .cpucfg
  | .cWRstCtrl1 _ => .cpucfg
  | .cRRstCtrl2 => .cpucfg
  | .cWRstCtrl2 _ => .cpucfg
  | .cRRstCtrl3 => .cpucfg
  | .cWRstCtrl3 _ => .cpucfg
  | .cRCtrl0 => .cpucfg
  | .cWCtrl0 _ => .cpucfg
  | .cRCtrl1 => .cpucfg
  | .cWCtrl1 _ => .cpucfg
  | .cRCtrl2 => .cpucfg
  | .cWCtrl2 _ => .cpucfg
  | .cRCtrl3 => .cpucfg
  | .cWCtrl3 _ => .cpucfg
  | .cRStatus0 => .cpucfg
  | .cWStatus0 _ => .cpucfg
  | .cRStatus1 => .cpucfg
  | .cWStatus1 _ => .cpucfg
  | .cRStatus2 => .cpucfg
  | .cWStatus2 _ => .cpucfg
  | .cRStatus3 => .cpucfg
  | .cWStatus3 _ => .cpucfg
  | .cRGenCtrl => .cpucfg
  | .cWGenCtrl _ => .cpucfg
  | .cRSuperStandby => .cpucfg
  | .cWSuperStandby _ => .cpucfg
  | .cREntryAddr => .cpucfg
  | .cWEntryAddr _ => .cpucfg
  | .cRPwroffGating => .cpucfg
  | .cWPwroffGating _ => .cpucfg
  | .cRPsw0 => .cpucfg
  | .cWPsw0 _ => .cpucfg
  | .cRPsw1 => .cpucfg
  | .cWPsw1 _ => .cpucfg
  | .cRPsw2 => .cpucfg
  | .cWPsw2 _ => .cpucfg
  | .cRPsw3 => .cpucfg
  | .cWPsw3 _ => .cpucfg
  | .cRPswDelay => .cpucfg
  | .cWPswDelay _ => .cpucfg
  | .cRCfgDelay => .cpucfg
  | .cWCfgDelay _ => .cpucfg
  | .cRPwrdnCfg => .cpucfg
  | .cWPwrdnCfg _ => .cpucfg
  | .cRPwrupCfg0 => .cpucfg
  | .cWPwrupCfg0 _ => .cpucfg
  | .cRPwrupCfg1 => .cpucfg
  | .cWPwrupCfg1 _ => .cpucfg
  | .cRPwrupCfg2 => .cpucfg
  | .cWPwrupCfg2 _ => .cpucfg
  | .cRPwrupCfg3 => .cpucfg
  | .cWPwrupCfg3 _ => .cpucfg
  | .cRPwrupCfg4 => .cpucfg
  | .cWPwrupCfg4 _ => .cpucfg
  | .cRPwrupCfg5 => .cpucfg
  | .cWPwrupCfg5 _ => .cpucfg
  | .cRUnimpDbgExtern => .cpucfg
  | .cWUnimpDbgExtern _ => .cpucfg
  | .cRUnimpCnt64Ctrl => .cpucfg
  | .cWUnimpCnt64Ctrl _ => .cpucfg
  | .cRUnimpCnt64Low => .cpucfg
  | .cWUnimpCnt64Low _ => .cpucfg
  | .cRUnimpCnt64High => .cpucfg
  | .cWUnimpCnt64High _ => .cpucfg
  | .cRUnknown _ => .cpucfg
  | .cWUnknown _ _ => .cpucfg

/-- The direction of an operation (R2, R83). -/
def dirOf : Instr → Dir
  | .sRGcr _ => .read
  | .sWGcr _ _ => .write
  | .sRTcr _ => .read
  | .sWTcr _ _ => .write
  | .sRIer _ => .read
  | .sWIer _ _ => .write
  | .sRIsr _ => .read
  | .sWIsr _ _ => .write
  | .sRFcr _ => .read
  | .sWFcr _ _ => .write
  | .sRFsr _ => .read
  | .sWFsr _ _ => .write
  | .sRWcr _ => .read
  | .sWWcr _ _ => .write
  | .sRCcr _ => .read
  | .sWCcr _ _ => .write
  | .sRMbc _ => .read
  | .sWMbc _ _ => .write
  | .sRMtc _ => .read
  | .sWMtc _ _ => .write
  | .sRBcc _ => .read
  | .sWBcc _ _ => .write
  | .sRDmactl _ => .read
  | .sWDmactl _ _ => .write
  | .sRTxd _ => .read
  | .sWTxd _ _ => .write
  | .sRRxd _ => .read
  | .sWRxd _ _ => .write
  | .sRUnknown _ _ => .read
  | .sWUnknown _ _ _ => .write
  | .cRRstCtrl0 => .read
  | .cWRstCtrl0 _ => .write
  | .cRRstCtrl1 => .read
  | .cWRstCtrl1 _ => .write
  | .cRRstCtrl2 => .read
  | .cWRstCtrl2 _ => .write
  | .cRRstCtrl3 => .read
  | .cWRstCtrl3 _ => .write
  | .cRCtrl0 => .read
  | .cWCtrl0 _ => .write
  | .cRCtrl1 => .read
  | .cWCtrl1 _ => .write
  | .cRCtrl2 => .read
  | .cWCtrl2 _ => .write
  | .cRCtrl3 => .read
  | .cWCtrl3 _ => .write
  | .cRStatus0 => .read
  | .cWStatus0 _ => .write
  | .cRStatus1 => .read
  | .cWStatus1 _ => .write
  | .cRStatus2 => .read
  | .cWStatus2 _ => .write
  | .cRStatus3 => .read
  | .cWStatus3 _ => .write
  | .cRGenCtrl => .read
  | .cWGenCtrl _ => .write
  | .cRSuperStandby => .read
  | .cWSuperStandby _ => .write
  | .cREntryAddr => .read
  | .cWEntryAddr _ => .write
  | .cRPwroffGating => .read
  | .cWPwroffGating _ => .write
  | .cRPsw0 => .read
  | .cWPsw0 _ => .write
  | .cRPsw1 => .read
  | .cWPsw1 _ => .write
  | .cRPsw2 => .read
  | .cWPsw2 _ => .write
  | .cRPsw3 => .read
  | .cWPsw3 _ => .write
  | .cRPswDelay => .read
  | .cWPswDelay _ => .write
  | .cRCfgDelay => .read
  | .cWCfgDelay _ => .write
  | .cRPwrdnCfg => .read
  | .cWPwrdnCfg _ => .write
  | .cRPwrupCfg0 => .read
  | .cWPwrupCfg0 _ => .write
  | .cRPwrupCfg1 => .read
  | .cWPwrupCfg1 _ => .write
  | .cRPwrupCfg2 => .read
  | .cWPwrupCfg2 _ => .write
  | .cRPwrupCfg3 => .read
  | .cWPwrupCfg3 _ => .write
  | .cRPwrupCfg4 => .read
  | .cWPwrupCfg4 _ => .write
  | .cRPwrupCfg5 => .read
  | .cWPwrupCfg5 _ => .write
  | .cRUnimpDbgExtern => .read
  | .cWUnimpDbgExtern _ => .write
  | .cRUnimpCnt64Ctrl => .read
  | .cWUnimpCnt64Ctrl _ => .write
  | .cRUnimpCnt64Low => .read
  | .cWUnimpCnt64Low _ => .write
  | .cRUnimpCnt64High => .read
  | .cWUnimpCnt64High _ => .write
  | .cRUnknown _ => .read
  | .cWUnknown _ _ => .write

end Sys2Proof.Machine
end

