-- ==== Sys2Proof/Certificates/Slice0/Obligations.lean ====
section
/-! DEFINITION. The statements for the provers, each from the numbered rules of spec/. A result is stated as the whole
next state, so what it does not name is unchanged. Neither block has a byte memory (R63), so no frame speaks of one. -/

open Sys2Proof Sys2Proof.Machine

/-! ## Encoding and decoding -/

/-- R80, R86 to R91: under every admissible configuration, decoding the encoding of a well-formed operation gives the
operation back, every operand at every value the encoding admits. -/
def Obligations.EncodeThenDecodeGivesOperationBack : Prop :=
  ∀ (cfg : Config) (i : Instr), cfg.wf = true → i.wf cfg = true → decode cfg (encode cfg i) = .ok i

/-- R80, R86, R87: what decode accepts is well formed and encodes to the same descriptor; a write's data operand is the
low `8*size` bits of the data (size is SZ + 1). -/
def Obligations.DecodeDropsNoBit : Prop :=
  ∀ (cfg : Config) (a : Access) (i : Instr), decode cfg a = .ok i →
    i.wf cfg = true ∧ (encode cfg i).desc = a.desc ∧
      (a.desc.getLsbD 10 = true →
        (encode cfg i).data.toNat = a.data.toNat % 2 ^ (8 * (a.desc.toNat / 2048 % 4 + 1)))

/-- R65, R67 to R69, R82, R85: exactly which descriptors decode refuses, and why. RES is bits 14:13, SZ bits 12:11, U
bit 15, OFF bits 9:0. -/
def Obligations.DecodeRefusesExactlyTheIllegalDescriptors : Prop :=
  ∀ (cfg : Config) (a : Access),
    let d := a.desc.toNat
    let size := d / 2048 % 4 + 1
    let off := d % 1024
    (decode cfg a = .error .reserved ↔ d / 8192 % 4 ≠ 0) ∧
    (decode cfg a = .error .badSize ↔ d / 8192 % 4 = 0 ∧
      if d < 32768 then size = 3 ∨ (size < 4 ∧ cfg.subwordMode = .refuse) else size ≠ 4) ∧
    (decode cfg a = .error .misaligned ↔ d / 8192 % 4 = 0 ∧
      if d < 32768 then (size = 4 ∨ (size ≠ 3 ∧ cfg.subwordMode = .exactOffset)) ∧ off % size ≠ 0
      else size = 4 ∧ off % 4 ≠ 0) ∧
    decode cfg a ≠ .error .fetch

/-- R95 (and R88, R89): descriptors written out from the tables decode to the operations they stand for. -/
def Obligations.WorkedDescriptorsDecode : Prop :=
  ∀ (cfg : Config) (w : Word), cfg.subwordMode = .exactOffset →
    decode cfg ⟨0x1E00, w⟩ = .ok (.sWTxd .b4 w) ∧
    decode cfg ⟨0x0300, w⟩ = .ok (.sRRxd .b1) ∧
    decode cfg ⟨0x1C08, w⟩ = .ok (.sWTcr .b4 w) ∧
    decode cfg ⟨0x99A4, w⟩ = .ok .cREntryAddr ∧
    decode cfg ⟨0x9CC0, w⟩ = .ok (.cWRstCtrl2 w) ∧
    decode cfg ⟨0x8DA4, w⟩ = .error .badSize ∧
    decode cfg ⟨0x180A, w⟩ = .error .misaligned ∧
    decode cfg ⟨0x080A, w⟩ = .ok (.sRUnknown .b2 0x00A)

/-- R88: the operation map of S. At each listed offset, in both directions and at every size the sub-word mode lets
through, the descriptor decodes to the listed operation; at every other aligned offset to the unknown-offset
operation. A write's operand is the low `8*size` bits of the data. -/
def Obligations.SpiDescriptorsDecodeByTheOperationMap : Prop :=
  ∀ (cfg : Config) (sz : SpiSize) (data : Word), (sz = .b4 ∨ cfg.subwordMode = .exactOffset) →
    let v := sliceLow sz data
    let read := fun off : Nat => decode cfg ⟨BitVec.ofNat 16 ((sz.bytes - 1) * 2048 + off), data⟩
    let write := fun off : Nat => decode cfg ⟨BitVec.ofNat 16 ((sz.bytes - 1) * 2048 + 1024 + off), data⟩
    (∀ p ∈ [(0x004, Instr.sRGcr sz, Instr.sWGcr sz v), (0x008, .sRTcr sz, .sWTcr sz v), (0x010, .sRIer sz, .sWIer sz v),
            (0x014, .sRIsr sz, .sWIsr sz v), (0x018, .sRFcr sz, .sWFcr sz v), (0x01C, .sRFsr sz, .sWFsr sz v),
            (0x020, .sRWcr sz, .sWWcr sz v), (0x024, .sRCcr sz, .sWCcr sz v), (0x030, .sRMbc sz, .sWMbc sz v),
            (0x034, .sRMtc sz, .sWMtc sz v), (0x038, .sRBcc sz, .sWBcc sz v), (0x088, .sRDmactl sz, .sWDmactl sz v),
            (0x200, .sRTxd sz, .sWTxd sz v), (0x300, .sRRxd sz, .sWRxd sz v)],
      read p.1 = .ok p.2.1 ∧ write p.1 = .ok p.2.2) ∧
    ∀ off : Nat, off < 0x400 → off % sz.bytes = 0 →
      off ∉ [0x004, 0x008, 0x010, 0x014, 0x018, 0x01C, 0x020, 0x024, 0x030, 0x034, 0x038, 0x088, 0x200, 0x300] →
        read off = .ok (.sRUnknown sz (BitVec.ofNat 10 off)) ∧ write off = .ok (.sWUnknown sz (BitVec.ofNat 10 off) v)

/-- R89 to R91: the operation map of C, each descriptor matched on all 16 bits: the rows of both variants, the r40
rows in the default layout, the unimplemented offsets, and every other aligned offset. -/
def Obligations.CpucfgDescriptorsDecodeByTheOperationMap : Prop :=
  ∀ (cfg : Config) (v : Word), cfg.wf = true →
    let read := fun off : Nat => decode cfg ⟨BitVec.ofNat 16 (0x9800 + off), v⟩
    let write := fun off : Nat => decode cfg ⟨BitVec.ofNat 16 (0x9C00 + off), v⟩
    (∀ p ∈ [(0x040, Instr.cRRstCtrl0, Instr.cWRstCtrl0 v), (0x080, .cRRstCtrl1, .cWRstCtrl1 v),
            (0x0C0, .cRRstCtrl2, .cWRstCtrl2 v), (0x100, .cRRstCtrl3, .cWRstCtrl3 v),
            (0x044, .cRCtrl0, .cWCtrl0 v), (0x084, .cRCtrl1, .cWCtrl1 v), (0x0C4, .cRCtrl2, .cWCtrl2 v),
            (0x104, .cRCtrl3, .cWCtrl3 v), (0x048, .cRStatus0, .cWStatus0 v), (0x088, .cRStatus1, .cWStatus1 v),
            (0x0C8, .cRStatus2, .cWStatus2 v), (0x108, .cRStatus3, .cWStatus3 v), (0x184, .cRGenCtrl, .cWGenCtrl v),
            (0x1A0, .cRSuperStandby, .cWSuperStandby v), (0x1A4, .cREntryAddr, .cWEntryAddr v),
            (0x1E4, .cRUnimpDbgExtern, .cWUnimpDbgExtern v), (0x280, .cRUnimpCnt64Ctrl, .cWUnimpCnt64Ctrl v),
            (0x284, .cRUnimpCnt64Low, .cWUnimpCnt64Low v), (0x288, .cRUnimpCnt64High, .cWUnimpCnt64High v)],
      read p.1 = .ok p.2.1 ∧ write p.1 = .ok p.2.2) ∧
    (cfg.variant = .r40 → cfg.r40Layout = R40Reg.all →
      ∀ p ∈ [(0x140, Instr.cRPwroffGating, Instr.cWPwroffGating v), (0x144, .cRPsw0, .cWPsw0 v),
             (0x148, .cRPsw1, .cWPsw1 v), (0x14C, .cRPsw2, .cWPsw2 v), (0x150, .cRPsw3, .cWPsw3 v),
             (0x154, .cRPswDelay, .cWPswDelay v), (0x158, .cRCfgDelay, .cWCfgDelay v), (0x15C, .cRPwrdnCfg, .cWPwrdnCfg v),
             (0x160, .cRPwrupCfg0, .cWPwrupCfg0 v), (0x164, .cRPwrupCfg1, .cWPwrupCfg1 v),
             (0x168, .cRPwrupCfg2, .cWPwrupCfg2 v), (0x16C, .cRPwrupCfg3, .cWPwrupCfg3 v),
             (0x170, .cRPwrupCfg4, .cWPwrupCfg4 v), (0x174, .cRPwrupCfg5, .cWPwrupCfg5 v)],
        read p.1 = .ok p.2.1 ∧ write p.1 = .ok p.2.2) ∧
    ∀ off : Nat, off < 0x400 → off % 4 = 0 →
      off ∉ [0x040, 0x080, 0x0C0, 0x100, 0x044, 0x084, 0x0C4, 0x104, 0x048, 0x088, 0x0C8, 0x108, 0x184, 0x1A0, 0x1A4, 0x1E4,
             0x280, 0x284, 0x288] →
      ¬(cfg.variant = .r40 ∧ 0x140 ≤ off ∧ off ≤ 0x174) →
        read off = .ok (.cRUnknown (BitVec.ofNat 10 off)) ∧ write off = .ok (.cWUnknown (BitVec.ofNat 10 off) v)

/-- R203 (and R90): an admissible layout is a bijection of the fourteen registers onto the fourteen slots, the default
one is the listed table, and in the r40 variant the slot a layout gives a register names that register in both
directions. -/
def Obligations.R40LayoutIsABijectionThatDecodeFollows : Prop :=
  (∀ l : List R40Reg, layoutOk l = true →
    (∀ r, 0x140 ≤ (r40Offset l r).toNat ∧ (r40Offset l r).toNat ≤ 0x174 ∧ (r40Offset l r).toNat % 4 = 0) ∧
    (∀ r r', r40Offset l r = r40Offset l r' → r = r') ∧
    ∀ k, k < 14 → ∃ r, (r40Offset l r).toNat = 0x140 + 4 * k) ∧
  (r40Offset R40Reg.all .pwroffGating = 0x140 ∧
    (∀ n : CoreId, (r40Offset R40Reg.all (.psw n)).toNat = 0x144 + 4 * n.val) ∧
    r40Offset R40Reg.all .pswDelay = 0x154 ∧ r40Offset R40Reg.all .cfgDelay = 0x158 ∧
    r40Offset R40Reg.all .pwrdnCfg = 0x15C ∧
    ∀ k : Fin 6, (r40Offset R40Reg.all (.pwrupCfg k)).toNat = 0x160 + 4 * k.val) ∧
  ∀ (cfg : Config) (r : R40Reg) (w : Word), cfg.wf = true → cfg.variant = .r40 →
    decode cfg (cpucfgRead (r40Offset cfg.r40Layout r)) = .ok (r40ReadInstr r) ∧
    decode cfg (cpucfgWrite (r40Offset cfg.r40Layout r) w) = .ok (r40WriteInstr w r)

/-- R218: in the base variant the aligned offsets 0x140 to 0x174 are unknown offsets: a read returns 0 and logs a guest
error, a write is a no-op and logs a guest error (so 0xFF issues no power-off). -/
def Obligations.BaseVariantR40SlotsAreUnknownOffsets : Prop :=
  ∀ (s : State) (off : Offset) (v : Word) (rest : List HostMove), s.cfg.variant = .base →
    0x140 ≤ off.toNat → off.toNat ≤ 0x174 → off.toNat % 4 = 0 →
    (s.pending = .access (cpucfgRead off) :: rest →
      step s = .next { s with
        pending := rest
        history := s.history ++ [.diag .cpucfg .unknownOffset off .none]
        replies := s.replies ++ [.value 4 0] }) ∧
    (s.pending = .access (cpucfgWrite off v) :: rest →
      step s = .next { s with
        pending := rest
        history := s.history ++ [.diag .cpucfg .unknownOffset off (.value v)]
        replies := s.replies ++ [.done] })

/-! ## The step and the host interface -/

/-- R11, R13, R70, R87: when the next interaction is an access that decodes to `i`, the step is `exec i` with that
interaction taken off the host's list; nothing else is added around it. -/
def Obligations.StepRunsTheDecodedOperation : Prop :=
  ∀ (s : State) (a : Access) (i : Instr) (rest : List HostMove),
    s.pending = .access a :: rest → decode s.cfg a = .ok i →
      step s = exec i { s with pending := rest }

/-- R233: a refused access takes no step of S or C: the host gets the refusal and nothing else changes. The four
reasons: `Reserved`, `BadSize`, `Misaligned` at decode, `Fetch` for a fetch from either window (R75). That a refusal is
a next state with a reply, after which the machine goes on, is the MODEL's reading (log 7, DEDUCED). -/
def Obligations.RefusedAccessChangesNothing : Prop :=
  (∀ (s : State) (a : Access) (r : RefuseReason) (rest : List HostMove),
    s.pending = .access a :: rest → decode s.cfg a = .error r →
      step s = .next { s with pending := rest, replies := s.replies ++ [.refused r] }) ∧
  ∀ (s : State) (addr : Nat) (rest : List HostMove),
    s.pending = .fetch addr :: rest →
    (s.cfg.spiBase ≤ addr ∧ addr < s.cfg.spiBase + 0x400 ∧ ¬(s.cfg.cpucfgBase ≤ addr ∧ addr < s.cfg.cpucfgBase + 0x400) ∨
      s.cfg.cpucfgBase ≤ addr ∧ addr < s.cfg.cpucfgBase + 0x400 ∧ ¬(s.cfg.spiBase ≤ addr ∧ addr < s.cfg.spiBase + 0x400)) →
      step s = .next { s with pending := rest, replies := s.replies ++ [.refused .fetch] }

/-- R60, R61, R81, R82, R65, R68: a bus read or write of 1 to 4 bytes at an address in exactly one window is the
access whose descriptor has that block's U, the direction, `SZ = size - 1` and `OFF = addr - base`, with the data the
little-endian integer of the bytes (R64, computed by the model's `leNat`, log 21). That 0 bytes or more than 4 answer a
next state whose reply is `BadSize` is the MODEL's reading (log 19 and log 7, both DEDUCED). -/
def Obligations.BusAccessIsTheDescriptorAccess : Prop :=
  ∀ (s : State) (addr size : Nat) (bytes : List Byte) (u : Block) (base : Nat) (rest : List HostMove),
    (u = .spi ∧ base = s.cfg.spiBase ∧ ¬(s.cfg.cpucfgBase ≤ addr ∧ addr < s.cfg.cpucfgBase + 0x400) ∨
      u = .cpucfg ∧ base = s.cfg.cpucfgBase ∧ ¬(s.cfg.spiBase ≤ addr ∧ addr < s.cfg.spiBase + 0x400)) →
    base ≤ addr → addr < base + 0x400 →
    let uBits := if u = .spi then 0 else 32768
    (s.pending = .busRead addr size :: rest →
      step s =
        if 1 ≤ size ∧ size ≤ 4 then
          step { s with pending := (
            .access ⟨BitVec.ofNat 16 (uBits + (size - 1) * 2048 + (addr - base)), 0⟩ :: rest) }
        else .next { s with pending := rest, replies := s.replies ++ [.refused .badSize] }) ∧
    (s.pending = .busWrite addr bytes :: rest →
      step s =
        if 1 ≤ bytes.length ∧ bytes.length ≤ 4 then
          step { s with pending := (
            .access ⟨BitVec.ofNat 16 (uBits + (bytes.length - 1) * 2048 + 1024 + (addr - base)),
              BitVec.ofNat 32 (leNat bytes)⟩ :: rest) }
        else .next { s with pending := rest, replies := s.replies ++ [.refused .badSize] })

/-- R62 (no meaning outside both windows: the model refuses by name) and log 8 (two windows over one address: the
MODEL's choice, a fault). -/
def Obligations.BusAccessOutsideTheWindowsStops : Prop :=
  ∀ (s : State) (addr size : Nat) (bytes : List Byte) (m : HostMove) (rest : List HostMove),
    (m = .busRead addr size ∨ m = .busWrite addr bytes ∨ m = .fetch addr) → s.pending = m :: rest →
    let inSpi := s.cfg.spiBase ≤ addr ∧ addr < s.cfg.spiBase + 0x400
    let inCpucfg := s.cfg.cpucfgBase ≤ addr ∧ addr < s.cfg.cpucfgBase + 0x400
    (¬ inSpi → ¬ inCpucfg → step s = .refused .outsideWindows) ∧
    (inSpi → inCpucfg → step s = .fault .windowsOverlap)

/-- R70, R230: every operation completes in every state: no fault, no refusal; it only appends to the history, gives
the host exactly one reply, which is no refusal, and leaves the configuration and the later interactions alone. -/
def Obligations.EveryOperationCompletes : Prop :=
  ∀ (i : Instr) (s : State), ∃ (t : State) (es : List Event) (r : Reply),
    exec i s = .next t ∧ t.history = s.history ++ es ∧ t.replies = s.replies ++ [r] ∧
      (∀ q, r ≠ .refused q) ∧ t.cfg = s.cfg ∧ t.pending = s.pending

/-- R21, R59: the blocks are passive: with no interaction left, a step changes nothing. (That the step exists is the
model's choice, log 9.) -/
def Obligations.IdleMachineWaits : Prop :=
  ∀ s : State, s.pending = [] → step s = .next s

/-! ## The word queue -/

/-- R101 to R106: the queue primitives. A push onto a full queue and a pop of an empty one change nothing. -/
def Obligations.QueuePrimitives : Prop :=
  (∀ n, (WordQueue.create n).cap = n ∧ (WordQueue.create n).items = []) ∧
  ∀ (q : WordQueue) (w : Word),
    q.reset = { cap := q.cap, items := [] } ∧
    (q.items.length < q.cap → q.push w = { cap := q.cap, items := q.items ++ [w] }) ∧
    (¬ q.items.length < q.cap → q.push w = q) ∧
    (q.items = [] → q.pop = (0, q)) ∧
    (∀ h t, q.items = h :: t → q.pop = (h, { cap := q.cap, items := t })) ∧
    q.count = q.items.length ∧ (q.empty = true ↔ q.items.length = 0) ∧ (q.full = true ↔ q.items.length = q.cap) ∧
    (0 < q.cap → ¬(q.empty = true ∧ q.full = true))

/-- R107, which the spec derives from R102 to R104: over every sequence of primitives, from a queue within its
capacity, the count stays within it and the capacity stays. -/
def Obligations.QueueNeverExceedsItsCapacity : Prop :=
  ∀ (q : WordQueue) (ms : List QueueMove), q.items.length ≤ q.cap →
    (ms.foldl WordQueue.move q).cap = q.cap ∧ (ms.foldl WordQueue.move q).items.length ≤ q.cap

/-- R109, which the spec derives from R103 and R104: words pushed with none dropped come back by successive pops in
the order pushed, after the words that were queued already. -/
def Obligations.QueueIsFirstInFirstOut : Prop :=
  ∀ (q : WordQueue) (ws : List Word), q.items.length + ws.length ≤ q.cap →
    WordQueue.popMany (q.items.length + ws.length) (ws.foldl WordQueue.push q)
      = (q.items ++ ws, { cap := q.cap, items := [] })

/-! ## The registers of block S -/

/-- R121, R123, R126, R128, R134, R136, R138, R140, R142, R144: a write of a plain storage register, of any legal
size, replaces all 32 bits by `zext_32(data)` and changes nothing else; the only bits a write masks are the
self-clearing ones of TCR and FCR. -/
def Obligations.SpiStorageWritesReplaceTheRegister : Prop :=
  ∀ (s : State) (sz : SpiSize) (data : Word),
    let v := sliceLow sz data
    let done := s.replies ++ [Reply.done]
    exec (.sWGcr sz data) s = .next { s with spi := { s.spi with gcr := v }, replies := done } ∧
    exec (.sWIer sz data) s = .next { s with spi := { s.spi with ier := v }, replies := done } ∧
    exec (.sWIsr sz data) s = .next { s with spi := { s.spi with isr := v }, replies := done } ∧
    exec (.sWWcr sz data) s = .next { s with spi := { s.spi with wcr := v }, replies := done } ∧
    exec (.sWCcr sz data) s = .next { s with spi := { s.spi with ccr := v }, replies := done } ∧
    exec (.sWMbc sz data) s = .next { s with spi := { s.spi with mbc := v }, replies := done } ∧
    exec (.sWMtc sz data) s = .next { s with spi := { s.spi with mtc := v }, replies := done } ∧
    exec (.sWBcc sz data) s = .next { s with spi := { s.spi with bcc := v }, replies := done } ∧
    exec (.sWDmactl sz data) s = .next { s with spi := { s.spi with dmactl := v }, replies := done } ∧
    (∃ t, exec (.sWTcr sz data) s = .next t ∧ t.spi.tcr = v &&& ~~~ bit s.cfg.tcrXchBit) ∧
    ∃ t, exec (.sWFcr sz data) s = .next t ∧ t.spi.fcr = v &&& ~~~ (bit s.cfg.fcrTfRstBit ||| bit s.cfg.fcrRfRstBit)

/-- R120, R122, R124, R125, R127, R129, R133, R135, R137, R139, R141, R143: a read of a storage register returns its low
`8*size` bits and changes nothing else; after a reset of S a whole read returns the register's power-on constant. -/
def Obligations.SpiStorageReadsReturnTheRegister : Prop :=
  ∀ (s : State) (sz : SpiSize),
    let returned := fun w : Word => Host.Outcome.next (φ := Fault) (ρ := Refusal)
      { s with replies := s.replies ++ [.value sz.bytes (sliceLow sz w)] }
    let afterReset := fun (t : State) (w : Word) => Host.Outcome.next (φ := Fault) (ρ := Refusal)
      { t with replies := t.replies ++ [.value 4 w] }
    let r := s.resetEvent .spi
    exec (.sRGcr sz) s = returned s.spi.gcr ∧ exec (.sRTcr sz) s = returned s.spi.tcr ∧
    exec (.sRIer sz) s = returned s.spi.ier ∧ exec (.sRIsr sz) s = returned s.spi.isr ∧
    exec (.sRFcr sz) s = returned s.spi.fcr ∧ exec (.sRWcr sz) s = returned s.spi.wcr ∧
    exec (.sRCcr sz) s = returned s.spi.ccr ∧ exec (.sRMbc sz) s = returned s.spi.mbc ∧
    exec (.sRMtc sz) s = returned s.spi.mtc ∧ exec (.sRBcc sz) s = returned s.spi.bcc ∧
    exec (.sRDmactl sz) s = returned s.spi.dmactl ∧
    exec (.sRGcr .b4) r = afterReset r 0x80 ∧ exec (.sRTcr .b4) r = afterReset r 0x87 ∧
    exec (.sRIer .b4) r = afterReset r 0 ∧ exec (.sRIsr .b4) r = afterReset r 0x32 ∧
    exec (.sRFcr .b4) r = afterReset r 0x00400001 ∧ exec (.sRWcr .b4) r = afterReset r 0 ∧
    exec (.sRCcr .b4) r = afterReset r 0x02 ∧ exec (.sRMbc .b4) r = afterReset r 0 ∧
    exec (.sRMtc .b4) r = afterReset r 0 ∧ exec (.sRBcc .b4) r = afterReset r 0 ∧
    exec (.sRDmactl .b4) r = afterReset r 0xA5

/-- R151, which the spec derives from R120, R121, R130 and R165: a 4-byte write followed by a 4-byte read of the same
storage register, with no access in between, returns the value written, less TCR's start bit and FCR's reset bits. -/
def Obligations.SpiStorageRoundTrip : Prop :=
  ∀ (s : State) (r : SpiReg) (v back : Word) (rest : List HostMove),
    storedBack s.cfg v r = some back →
    s.pending = .access (spiWrite .b4 r.offset v) :: .access (spiRead .b4 r.offset) :: rest →
      ∃ t u, step s = .next t ∧ step t = .next u ∧
        u.replies = s.replies ++ [.done, .value 4 back] ∧ u.pending = rest

/-- R130: an FCR write empties exactly the queues whose reset bits are set, stores the value with both bits cleared, and
changes nothing else. -/
def Obligations.FifoControlWrite : Prop :=
  ∀ (s : State) (sz : SpiSize) (data : Word),
    let v := sliceLow sz data
    exec (.sWFcr sz data) s = .next { s with
      spi := { s.spi with
        tx := if v.getLsbD s.cfg.fcrTfRstBit = true then { cap := s.spi.tx.cap, items := [] } else s.spi.tx
        rx := if v.getLsbD s.cfg.fcrRfRstBit = true then { cap := s.spi.rx.cap, items := [] } else s.spi.rx
        fcr := v &&& ~~~ (bit s.cfg.fcrTfRstBit ||| bit s.cfg.fcrRfRstBit) }
      replies := s.replies ++ [.done] }

/-- R131 (and R26): an FSR read returns the TX count in bits 23:16 and the RX count in bits 7:0, every other bit 0,
its low `8*size` bits for a smaller read, and changes nothing. Stated for queues within the variant's depth, which
R107 and `StepKeepsInvariant` give. -/
def Obligations.FifoStatusPacksTheCounts : Prop :=
  ∀ (s : State) (sz : SpiSize), s.spi.Good s.cfg →
    exec (.sRFsr sz) s = .next { s with
      replies := s.replies ++ [.value sz.bytes (BitVec.ofNat 32
        ((s.spi.tx.items.length * 65536 + s.spi.rx.items.length) % 2 ^ (8 * sz.bytes)))] }

/-- R145 (and R103): a TXD write pushes `zext_32(data)` as one word, or drops it silently when TX is full. -/
def Obligations.TransmitDataWritePushes : Prop :=
  ∀ (s : State) (sz : SpiSize) (data : Word),
    exec (.sWTxd sz data) s = .next { s with
      spi := { s.spi with tx :=
        if s.spi.tx.items.length < s.spi.tx.cap then
          { cap := s.spi.tx.cap, items := s.spi.tx.items ++ [sliceLow sz data] }
        else s.spi.tx }
      replies := s.replies ++ [.done] }

/-- R147 (and R104): an RXD read pops a whole word and returns its low `8*size` bits; on an empty RX it returns 0 and
changes nothing. -/
def Obligations.ReceiveDataReadPops : Prop :=
  ∀ (s : State) (sz : SpiSize),
    (s.spi.rx.items = [] →
      exec (.sRRxd sz) s = .next { s with replies := s.replies ++ [.value sz.bytes 0] }) ∧
    ∀ h t, s.spi.rx.items = h :: t →
      exec (.sRRxd sz) s = .next { s with
        spi := { s.spi with rx := { cap := s.spi.rx.cap, items := t } }
        replies := s.replies ++ [.value sz.bytes (sliceLow sz h)] }

/-- R132, R146, R148: the rejected directions log one guest error and do nothing else; a rejected read returns 0. -/
def Obligations.RejectedDirectionsOnlyLog : Prop :=
  diagClass .roWrite = .guestError ∧ diagClass .woRead = .guestError ∧
  ∀ (s : State) (sz : SpiSize) (data : Word),
    exec (.sWFsr sz data) s = .next { s with
      history := s.history ++ [.diag .spi .roWrite 0x01C (.value (sliceLow sz data))]
      replies := s.replies ++ [.done] } ∧
    exec (.sRTxd sz) s = .next { s with
      history := s.history ++ [.diag .spi .woRead 0x200 .none]
      replies := s.replies ++ [.value sz.bytes 0] } ∧
    exec (.sWRxd sz data) s = .next { s with
      history := s.history ++ [.diag .spi .roWrite 0x300 (.value (sliceLow sz data))]
      replies := s.replies ++ [.done] }

/-- R149, R150: the operations of an unlisted offset of S log one guest error and do nothing else, and they are what
every legal access at an offset outside R88 decodes to, the byte and half-word offsets inside a register among them. -/
def Obligations.SpiUnknownOffsetsOnlyLog : Prop :=
  diagClass .unknownOffset = .guestError ∧
  (∀ (s : State) (sz : SpiSize) (off : Offset) (data : Word),
    exec (.sRUnknown sz off) s = .next { s with
      history := s.history ++ [.diag .spi .unknownOffset off .none]
      replies := s.replies ++ [.value sz.bytes 0] } ∧
    exec (.sWUnknown sz off data) s = .next { s with
      history := s.history ++ [.diag .spi .unknownOffset off (.value (sliceLow sz data))]
      replies := s.replies ++ [.done] }) ∧
  ∀ (cfg : Config) (sz : SpiSize) (off : Offset) (data : Word),
    (sz = .b4 ∨ cfg.subwordMode = .exactOffset) → off.toNat % sz.bytes = 0 →
    off.toNat ∉ [0x004, 0x008, 0x010, 0x014, 0x018, 0x01C, 0x020, 0x024, 0x030, 0x034, 0x038, 0x088, 0x200, 0x300] →
      decode cfg (spiRead sz off) = .ok (.sRUnknown sz off) ∧
      decode cfg (spiWrite sz off data) = .ok (.sWUnknown sz off (sliceLow sz data))

/-- R152, which the spec derives from R120 to R150 and R164: the S operations that emit a diagnostic are the rejected
directions, the unknown offsets, and a TCR write with XCH = 1 whose burst length is 0 or mismatched; every other S
operation is silent. -/
def Obligations.OnlyTheseSpiOperationsLog : Prop :=
  ∀ (i : Instr) (s : State), blockOf i = .spi → ∃ t es,
    exec i s = .next t ∧ t.history = s.history ++ es ∧
      ((∃ e ∈ es, isDiag e = true) ↔
        (∃ sz data, i = .sWFsr sz data) ∨ (∃ sz, i = .sRTxd sz) ∨ (∃ sz data, i = .sWRxd sz data) ∨
        (∃ sz off, i = .sRUnknown sz off) ∨ (∃ sz off data, i = .sWUnknown sz off data) ∨
        ∃ sz data, i = .sWTcr sz data ∧ (sliceLow sz data).getLsbD s.cfg.tcrXchBit = true ∧
          (s.spi.mbc.toNat % 2 ^ 24 = 0 ∨ s.spi.mbc.toNat % 2 ^ 24 ≠ s.spi.tx.items.length))

/-! ## The burst engine -/

/-- R160, R165: a TCR write with XCH = 0 stores the value (its XCH bit, 0, forced to 0) and does nothing else. -/
def Obligations.TransferControlWriteWithoutStartStores : Prop :=
  ∀ (s : State) (sz : SpiSize) (data : Word), (sliceLow sz data).getLsbD s.cfg.tcrXchBit = false →
    exec (.sWTcr sz data) s = .next { s with
      spi := { s.spi with tcr := sliceLow sz data }
      replies := s.replies ++ [.done] }

/-- R162 (and R161, R165): a start with `MBC[23:0] = 0` logs one warning, changes no queue, makes no exchange, and still
stores TCR. -/
def Obligations.BurstOfLengthZeroAborts : Prop :=
  diagClass .burstZero = .warning ∧
  ∀ (s : State) (sz : SpiSize) (data : Word), (sliceLow sz data).getLsbD s.cfg.tcrXchBit = true →
    s.spi.mbc.toNat % 2 ^ 24 = 0 →
      exec (.sWTcr sz data) s = .next { s with
        spi := { s.spi with tcr := sliceLow sz data &&& ~~~ bit s.cfg.tcrXchBit }
        history := s.history ++ [.diag .spi .burstZero 0x008 (.length 0)]
        replies := s.replies ++ [.done] }

/-- The summary R170, which the spec derives from R160 to R165, R103 and R104: the whole of a TCR write with XCH = 1.
With a nonzero declared length, every queued TX word is exchanged in order, whatever was declared; RX takes the answers
it has room for; a mismatch logs one warning before the exchanges; TCR is stored with XCH cleared; nothing else changes.
Stated for queues within the variant's depth. That the answers come from the state's script, which gives up those drawn,
or are free where none is listed (`DrawnMany`), is the MODEL's form of the draws of R52 (log 5, DESIGN CHOICE). -/
def Obligations.BurstSummary : Prop :=
  diagClass .burstZero = .warning ∧ diagClass .burstMismatch = .warning ∧
  ∀ (s : State) (sz : SpiSize) (data : Word), s.spi.Good s.cfg →
    (sliceLow sz data).getLsbD s.cfg.tcrXchBit = true →
    let n0 := s.spi.mbc.toNat % 2 ^ 24
    let c := s.spi.tx.items.length
    let tcr := sliceLow sz data &&& ~~~ bit s.cfg.tcrXchBit
    (n0 = 0 → exec (.sWTcr sz data) s = .next { s with
      spi := { s.spi with tcr := tcr }
      history := s.history ++ [.diag .spi .burstZero 0x008 (.length 0)]
      replies := s.replies ++ [.done] }) ∧
    (n0 ≠ 0 → ∃ answers rest, answers.length = c ∧ DrawnMany s.script.exchanges answers rest ∧
      exec (.sWTcr sz data) s = .next { s with
        spi := { s.spi with
          tcr := tcr
          tx := { cap := s.spi.tx.cap, items := [] }
          rx := { cap := s.spi.rx.cap
                  items := s.spi.rx.items ++ answers.take (s.cfg.spiDepth.words - s.spi.rx.items.length) } }
        history := s.history ++ (if n0 ≠ c then [.diag .spi .burstMismatch 0x008 (.lengths n0 c)] else [])
          ++ List.zipWith Event.exchange s.spi.tx.items answers
        script := { s.script with exchanges := rest }
        replies := s.replies ++ [.done] })

/-- R171, the source's property 2, which the spec derives from R170: with exactly K words in TX and `MBC[23:0] = K`, a
start leaves TX empty, the start bit clear, and RX with min(r0 + K, SPI_DEPTH) words; if RX was empty these are
exactly the K answers, in order. Where the answers come from is the MODEL's form of the draws of R52 (log 5, DESIGN
CHOICE). -/
def Obligations.BurstOfExactlyTheQueuedWords : Prop :=
  ∀ (s : State) (sz : SpiSize) (data : Word) (K : Nat), s.spi.Good s.cfg →
    (sliceLow sz data).getLsbD s.cfg.tcrXchBit = true →
    s.spi.tx.items.length = K → s.spi.mbc.toNat % 2 ^ 24 = K →
      ∃ t answers rest, exec (.sWTcr sz data) s = .next t ∧ answers.length = K ∧
        DrawnMany s.script.exchanges answers rest ∧
        t.spi.tx.items = [] ∧ t.spi.tcr.getLsbD s.cfg.tcrXchBit = false ∧
        t.spi.rx.items.length = min (s.spi.rx.items.length + K) s.cfg.spiDepth.words ∧
        (s.spi.rx.items = [] → t.spi.rx.items = answers)

/-- R167: a TCR write changes only TX, RX, the history and, by its store step, TCR; in particular MBC is not counted
down and ISR gains no completion bit. (The answers still listed are the model's own.) -/
def Obligations.BurstChangesOnlyQueuesAndHistory : Prop :=
  ∀ (s : State) (sz : SpiSize) (data : Word), ∃ tx rx es rest,
    exec (.sWTcr sz data) s = .next { s with
      spi := { s.spi with tcr := sliceLow sz data &&& ~~~ bit s.cfg.tcrXchBit, tx := tx, rx := rx }
      history := s.history ++ es
      script := { s.script with exchanges := rest }
      replies := s.replies ++ [.done] }

/-- R172, which the spec derives from R66, R150 and R160 (and R52): with the start bit at 31, only a 4-byte write at
0x008 with bit 31 of the data set starts a burst: no other access exchanges a word or logs a burst warning. -/
def Obligations.OnlyAWholeTransferControlWriteStartsABurst : Prop :=
  ∀ (s t : State) (a : Access) (rest : List HostMove) (e : Event),
    s.cfg.tcrXchBit = 31 → s.pending = .access a :: rest → step s = .next t →
    e ∈ t.history.drop s.history.length →
    (isExchange e = true ∨ (∃ off info, e = .diag .spi .burstZero off info) ∨
      ∃ off info, e = .diag .spi .burstMismatch off info) →
      a.desc = 0x1C08 ∧ a.data.getLsbD 31 = true

/-- R168: the burst reads no field except `MBC[23:0]`, the two queues and the XCH bit of the written value: two states
of one history and one environment that agree on these exchange the same words and end with the same queues. -/
def Obligations.BurstReadsOnlyLengthQueuesAndStartBit : Prop :=
  ∀ (s s' : State) (sz sz' : SpiSize) (data data' : Word),
    s.spi.mbc.toNat % 2 ^ 24 = s'.spi.mbc.toNat % 2 ^ 24 → s.spi.tx = s'.spi.tx → s.spi.rx = s'.spi.rx →
    (sliceLow sz data).getLsbD s.cfg.tcrXchBit = (sliceLow sz' data').getLsbD s'.cfg.tcrXchBit →
    s.history = s'.history → s.script = s'.script →
      ∃ t t', exec (.sWTcr sz data) s = .next t ∧ exec (.sWTcr sz' data') s' = .next t' ∧
        t.spi.tx = t'.spi.tx ∧ t.spi.rx = t'.spi.rx ∧ t.history = t'.history ∧ t.script = t'.script

/-! ## Block C -/

/-- R182, R189, R191: reads of RST_CTRL(n), CTRL(n) and STATUS(n) return the configuration's constants, in every
state, and change nothing. -/
def Obligations.ConstantReadsOfCpucfg : Prop :=
  ∀ s : State,
    (∀ i ∈ [Instr.cRRstCtrl0, .cRRstCtrl1, .cRRstCtrl2, .cRRstCtrl3],
      exec i s = .next { s with replies := s.replies ++ [.value 4 s.cfg.rstCtrlReleased] }) ∧
    (∀ i ∈ [Instr.cRCtrl0, .cRCtrl1, .cRCtrl2, .cRCtrl3],
      exec i s = .next { s with replies := s.replies ++ [.value 4 s.cfg.cpuCtrlRead] }) ∧
    ∀ i ∈ [Instr.cRStatus0, .cRStatus1, .cRStatus2, .cRStatus3],
      exec i s = .next { s with replies := s.replies ++ [.value 4 s.cfg.cpuStatusRead] }

/-- R190, R192: writes of CTRL(n) and STATUS(n) are ignored, with no diagnostic. -/
def Obligations.ControlAndStatusWritesAreIgnored : Prop :=
  ∀ (s : State) (v : Word),
    ∀ i ∈ [Instr.cWCtrl0 v, .cWCtrl1 v, .cWCtrl2 v, .cWCtrl3 v, .cWStatus0 v, .cWStatus1 v, .cWStatus2 v, .cWStatus3 v],
      exec i s = .next { s with replies := s.replies ++ [.done] }

/-- R193 to R198: the three registers of both variants are whole-word storage, and after a reset of C a read returns
GEN_CTRL_RESET, 0 and 0. -/
def Obligations.CpucfgStorageRegisters : Prop :=
  ∀ (s : State) (v : Word),
    exec .cRGenCtrl s = .next { s with replies := s.replies ++ [.value 4 s.cpucfg.genCtrl] } ∧
    exec .cRSuperStandby s = .next { s with replies := s.replies ++ [.value 4 s.cpucfg.superStandby] } ∧
    exec .cREntryAddr s = .next { s with replies := s.replies ++ [.value 4 s.cpucfg.entryAddr] } ∧
    exec (.cWGenCtrl v) s =
      .next { s with cpucfg := { s.cpucfg with genCtrl := v }, replies := s.replies ++ [.done] } ∧
    exec (.cWSuperStandby v) s =
      .next { s with cpucfg := { s.cpucfg with superStandby := v }, replies := s.replies ++ [.done] } ∧
    exec (.cWEntryAddr v) s =
      .next { s with cpucfg := { s.cpucfg with entryAddr := v }, replies := s.replies ++ [.done] } ∧
    let r := s.resetEvent .cpucfg
    exec .cRGenCtrl r = .next { r with replies := r.replies ++ [.value 4 s.cfg.genCtrlReset] } ∧
    exec .cRSuperStandby r = .next { r with replies := r.replies ++ [.value 4 0] } ∧
    exec .cREntryAddr r = .next { r with replies := r.replies ++ [.value 4 0] }

/-- R199 to R202: the unimplemented and the unknown offsets of C log one diagnostic of their class and do nothing
else; a read returns 0. -/
def Obligations.CpucfgUnimplementedAndUnknownOnlyLog : Prop :=
  diagClass .unimp = .unimplemented ∧ diagClass .unknownOffset = .guestError ∧
  ∀ (s : State) (v : Word),
    (∀ p ∈ [((0x1E4 : Offset), Instr.cRUnimpDbgExtern, Instr.cWUnimpDbgExtern v),
            (0x280, .cRUnimpCnt64Ctrl, .cWUnimpCnt64Ctrl v), (0x284, .cRUnimpCnt64Low, .cWUnimpCnt64Low v),
            (0x288, .cRUnimpCnt64High, .cWUnimpCnt64High v)],
      exec p.2.1 s = .next { s with
        history := s.history ++ [.diag .cpucfg .unimp p.1 .none], replies := s.replies ++ [.value 4 0] } ∧
      exec p.2.2 s = .next { s with
        history := s.history ++ [.diag .cpucfg .unimp p.1 (.value v)], replies := s.replies ++ [.done] }) ∧
    ∀ off : Offset,
      exec (.cRUnknown off) s = .next { s with
        history := s.history ++ [.diag .cpucfg .unknownOffset off .none], replies := s.replies ++ [.value 4 0] } ∧
      exec (.cWUnknown off v) s = .next { s with
        history := s.history ++ [.diag .cpucfg .unknownOffset off (.value v)], replies := s.replies ++ [.done] }

/-- R183 to R188, R219: a write of 0 to RST_CTRL(n) does nothing. A nonzero write stores nothing and looks core n up; an
unknown core ends it there; for a known one it requests power-on at C.ENTRY_ADDR (zero-extended) and level 3 with the
handle's width mode, and a failure logs one error. The MODEL's readings: the error's offset is that of RST_CTRL(n), since
R188 does not bind `off` (log 15, DEDUCED); the entry address is held zero-extended to 64 bits for every core (log 16,
DEDUCED); the answers are drawn from the state's script (log 5, DESIGN CHOICE). -/
def Obligations.ResetControlWriteStartsTheCore : Prop :=
  diagClass .powerOnFail = .error ∧
  ∀ (s : State) (v : Word),
    ∀ p ∈ [((0 : CoreId), Instr.cWRstCtrl0 v), (1, .cWRstCtrl1 v), (2, .cWRstCtrl2 v), (3, .cWRstCtrl3 v)],
      (v = 0 → exec p.2 s = .next { s with replies := s.replies ++ [.done] }) ∧
      (v ≠ 0 → ∃ h ls, Drawn s.script.lookups h ls ∧
        ((h = none ∧ exec p.2 s = .next { s with
            history := s.history ++ [.lookup p.1 false]
            script := { s.script with lookups := ls }
            replies := s.replies ++ [.done] }) ∨
         ∃ (c : CoreHandle) (r : PowerResult) (ps : List PowerResult),
          h = some c ∧ Drawn s.script.powerOns r ps ∧
          exec p.2 s = .next { s with
            history := s.history
              ++ [.lookup p.1 true, .powerOn p.1 (s.cpucfg.entryAddr.setWidth 64) 3 c.is64 r]
              ++ (if r = .err then
                    [.diag .cpucfg .powerOnFail (BitVec.ofNat 10 (0x40 + 0x40 * p.1.val)) (.core p.1 .err)]
                  else [])
            script := { s.script with lookups := ls, powerOns := ps }
            replies := s.replies ++ [.done] }))

/-- R204, R206, R210, R212, R214, R216 and R205, R211, R213, R215, R217: in the r40 variant a read returns the
register, and a write of a register other than a power switch replaces it whole, leaves the other thirteen alone and
requests nothing; after a reset of C a read returns the register's reset constant. -/
def Obligations.R40RegistersAreStorage : Prop :=
  ∀ (s : State) (v : Word), s.cfg.variant = .r40 →
    (∀ r : R40Reg, exec (r40ReadInstr r) s =
      .next { s with replies := s.replies ++ [.value 4 (readReg40 s.cpucfg.r40 r)] }) ∧
    (∀ r : R40Reg, (∀ n, r ≠ .psw n) → ∃ f : R40Regs,
      exec (r40WriteInstr v r) s =
        .next { s with cpucfg := { s.cpucfg with r40 := f }, replies := s.replies ++ [.done] } ∧
      readReg40 f r = v ∧ ∀ r', r' ≠ r → readReg40 f r' = readReg40 s.cpucfg.r40 r') ∧
    let t := s.resetEvent .cpucfg
    ∀ r : R40Reg, exec (r40ReadInstr r) t =
      .next { t with replies := t.replies ++ [.value 4 (readReg40 s.cfg.r40Reset r)] }

/-- R207 to R209: in the r40 variant a PSW[n] write stores the whole word, leaves the other thirteen registers alone,
and then: for 0x000000FF makes exactly one power-off request, logging an error if it fails; for 0x00000000 and every
other value does nothing more. The MODEL's readings: the error's offset is the one the layout gives PSW[n], since R209
does not bind `off` (log 15, DEDUCED); the answer is drawn from the state's script (log 5, DESIGN CHOICE). -/
def Obligations.PowerSwitchWrite : Prop :=
  diagClass .powerOffFail = .error ∧
  ∀ (s : State) (v : Word), s.cfg.variant = .r40 →
    ∀ p ∈ [((0 : CoreId), Instr.cWPsw0 v), (1, .cWPsw1 v), (2, .cWPsw2 v), (3, .cWPsw3 v)], ∃ f : R40Regs,
      readReg40 f (.psw p.1) = v ∧ (∀ r', r' ≠ .psw p.1 → readReg40 f r' = readReg40 s.cpucfg.r40 r') ∧
      (v ≠ 0x000000FF → exec p.2 s = .next { s with
        cpucfg := { s.cpucfg with r40 := f }, replies := s.replies ++ [.done] }) ∧
      (v = 0x000000FF → ∃ r ps, Drawn s.script.powerOffs r ps ∧ exec p.2 s = .next { s with
        cpucfg := { s.cpucfg with r40 := f }
        history := s.history ++ [.powerOff p.1 r]
          ++ (if r = .err then
                [.diag .cpucfg .powerOffFail (r40Offset s.cfg.r40Layout (.psw p.1)) (.core p.1 .err)]
              else [])
        script := { s.script with powerOffs := ps }
        replies := s.replies ++ [.done] })

/-- R220, the source's property 8, which the spec derives from R207 to R209: writing 0xFF and then 0x00 to a power
switch, with no access in between, makes exactly one power-off request and leaves the register 0. -/
def Obligations.PowerSwitchOffThenOnRequestsOnce : Prop :=
  ∀ (s : State) (n : CoreId) (rest : List HostMove), s.cfg.wf = true → s.cfg.variant = .r40 →
    s.pending = .access (cpucfgWrite (r40Offset s.cfg.r40Layout (.psw n)) 0xFF)
      :: .access (cpucfgWrite (r40Offset s.cfg.r40Layout (.psw n)) 0) :: rest →
      ∃ t u r es, step s = .next t ∧ step t = .next u ∧ u.pending = rest ∧
        u.history = s.history ++ .powerOff n r :: es ∧ (∀ e ∈ es, isDiag e = true) ∧
        readReg40 u.cpucfg.r40 (.psw n) = 0

/-! ## Reset -/

/-- R261, R262, R265: a reset of S empties both queues, keeps their capacity, loads the eleven power-on constants, emits
nothing and leaves C, the configuration and the history alone. -/
def Obligations.ResetOfSpi : Prop :=
  ∀ (s : State) (rest : List HostMove), s.pending = .reset .spi :: rest →
    step s = .next { s with
      spi := { gcr := 0x80, tcr := 0x87, ier := 0, isr := 0x32, fcr := 0x00400001, wcr := 0, ccr := 0x02, mbc := 0, mtc := 0,
               bcc := 0, dmactl := 0xA5, tx := { cap := s.spi.tx.cap, items := [] },
               rx := { cap := s.spi.rx.cap, items := [] } }
      pending := rest
      replies := s.replies ++ [.done] }

/-- R263, R264, R265: a reset of C loads GEN_CTRL_RESET, 0 and 0 and, in the r40 variant, every r40 reset constant; it
requests nothing, emits nothing and leaves S, the configuration and the history alone. -/
def Obligations.ResetOfCpucfg : Prop :=
  ∀ (s : State) (rest : List HostMove), s.pending = .reset .cpucfg :: rest →
    ∃ f : R40Regs,
      step s = .next { s with
        cpucfg := { genCtrl := s.cfg.genCtrlReset, superStandby := 0, entryAddr := 0, r40 := f }
        pending := rest
        replies := s.replies ++ [.done] } ∧
      (s.cfg.variant = .r40 → ∀ r, readReg40 f r = readReg40 s.cfg.r40Reset r) ∧
      (s.cfg.variant = .base → f = s.cpucfg.r40)

/-- R269, the source's property 9, which the spec derives from R261 to R265: a second reset in a row changes nothing
more, and the blocks after a reset do not depend on the state before it. -/
def Obligations.ResetIsIdempotentAndForgets : Prop :=
  ∀ (s s' : State) (u : Block), s.cfg = s'.cfg → s.spi.Good s.cfg → s'.spi.Good s'.cfg →
    (s.resetEvent u).resetEvent u = s.resetEvent u ∧
    (s.resetEvent .spi).spi = (s'.resetEvent .spi).spi ∧
    (s.cfg.variant = .r40 → (s.resetEvent .cpucfg).cpucfg = (s'.resetEvent .cpucfg).cpucfg) ∧
    (s.resetEvent u).history = s.history

/-- R267: an instance at creation has empty queues of the variant's depth, every register at its reset value and an
empty history; a reset event for either block changes nothing of it. `State.reset` is the instance of the
configuration `standardConfig`, which is the MODEL's choice (log 2 to 4). That in the base variant, which has no r40
registers (R45), their place in the record holds the configuration's constants is the MODEL's choice too (log 14, DESIGN
CHOICE). -/
def Obligations.LaunchStateIsTheResetState : Prop :=
  State.reset = State.launch standardConfig ∧
  ∀ cfg : Config,
    (State.launch cfg).cfg = cfg ∧
    (State.launch cfg).spi =
      { gcr := 0x80, tcr := 0x87, ier := 0, isr := 0x32, fcr := 0x00400001, wcr := 0, ccr := 0x02, mbc := 0, mtc := 0,
        bcc := 0, dmactl := 0xA5, tx := { cap := cfg.spiDepth.words, items := [] },
        rx := { cap := cfg.spiDepth.words, items := [] } } ∧
    (State.launch cfg).cpucfg =
      { genCtrl := cfg.genCtrlReset, superStandby := 0, entryAddr := 0, r40 := cfg.r40Reset } ∧
    (State.launch cfg).history = [] ∧
    ∀ u, (State.launch cfg).resetEvent u = State.launch cfg

/-- R30 to R41, whose positions the spec marks as general knowledge: the fields of each S register follow each other
over all 32 bits, and after a reset each reads its listed value. -/
def Obligations.FieldsReadTheirResetValues : Prop :=
  ∀ (r : SpiReg) (w : Word) (s : State), spiWord (s.resetEvent .spi).spi r = some w →
    fieldsTile 0 (spiFields r) = true ∧ ∀ f ∈ spiFields r, f.of w = f.reset

/-! ## The whole machine -/

/-- The invariant holds at creation of every admissible instance, `State.reset` among them. -/
def Obligations.InvariantHoldsAtLaunch : Prop :=
  (∀ cfg : Config, cfg.wf = true → (State.launch cfg).Inv) ∧ State.reset.Inv

/-- R25, R28, R29, R57, R107: every step keeps the invariant: the configuration stays admissible, both queues keep the
variant's capacity and stay within it, and the self-clearing bits of TCR and FCR stay 0. -/
def Obligations.StepKeepsInvariant : Prop :=
  ∀ s t : State, s.Inv → step s = .next t → t.Inv

/-- R28, R29, which the spec derives from R130, R165 and R262: in every state that any host interactions and any
environment answers lead to from creation, TCR's start bit and FCR's reset bits read 0, whatever those interactions
are. -/
def Obligations.SelfClearingBitsReadZeroWhereverReachable : Prop :=
  ∀ (cfg : Config) (ms : List HostMove) (answers : Script) (t : State), cfg.wf = true →
    Leads { State.launch cfg with pending := ms, script := answers } t →
      t.spi.tcr.getLsbD cfg.tcrXchBit = false ∧ t.spi.fcr.getLsbD cfg.fcrTfRstBit = false ∧
        t.spi.fcr.getLsbD cfg.fcrRfRstBit = false

/-- R57, R266: no step changes the configuration or the capacity of a queue, and the history only grows (R265). -/
def Obligations.StepKeepsConfigurationAndHistory : Prop :=
  ∀ s t : State, step s = .next t →
    t.cfg = s.cfg ∧ t.spi.tx.cap = s.spi.tx.cap ∧ t.spi.rx.cap = s.spi.rx.cap ∧ ∃ es, t.history = s.history ++ es

/-- R58, R79: the blocks share no storage and neither reads the other's state: an operation of one leaves the other as
it is, and does the same whatever the other holds. -/
def Obligations.BlocksShareNoStorage : Prop :=
  ∀ (i : Instr) (s : State),
    (blockOf i = .spi → ∀ c : CpucfgBlock, ∃ t, exec i s = .next t ∧ t.cpucfg = s.cpucfg ∧
      exec i { s with cpucfg := c } = .next { t with cpucfg := c }) ∧
    (blockOf i = .cpucfg → ∀ b : SpiBlock, ∃ t, exec i s = .next t ∧ t.spi = s.spi ∧
      exec i { s with spi := b } = .next { t with spi := b })

/-- R45: the base variant has none of the fourteen r40 registers: no operation writes them or does anything that
depends on them. -/
def Obligations.BaseVariantHasNoR40Registers : Prop :=
  ∀ (i : Instr) (s : State) (f : R40Regs), s.cfg.variant = .base → ∃ t, exec i s = .next t ∧
    t.cpucfg.r40 = s.cpucfg.r40 ∧
    exec i { s with cpucfg := { s.cpucfg with r40 := f } } = .next { t with cpucfg := { t.cpucfg with r40 := f } }

/-- R236's last sentence, which the spec derives from the rules it names: no operation logs more than one diagnostic,
so never two guest errors and never both a warning and an error; and a diagnostic of the burst comes before every
exchange. -/
def Obligations.AtMostOneDiagnosticAndWarningsFirst : Prop :=
  ∀ (i : Instr) (s : State), ∃ t es, exec i s = .next t ∧ t.history = s.history ++ es ∧
    (es.filter isDiag).length ≤ 1 ∧
    ∀ before e after, es = before ++ e :: after → isDiag e = true → ∀ e' ∈ before, isExchange e' = false

/-- R24, R43, R46: no operation but its own write changes a stored register: of all operations only S.W.GCR changes
GCR, and so on for the eleven of S, the three of C and the fourteen of the r40 variant. A reset event, which is no
operation, changes them too (R262 to R264; `ResetOfSpi`, `ResetOfCpucfg`). -/
def Obligations.NoOperationButItsOwnWriteChangesARegister : Prop :=
  ∀ (i : Instr) (s : State), ∃ t, exec i s = .next t ∧
    (t.spi.gcr ≠ s.spi.gcr → ∃ sz v, i = .sWGcr sz v) ∧ (t.spi.tcr ≠ s.spi.tcr → ∃ sz v, i = .sWTcr sz v) ∧
    (t.spi.ier ≠ s.spi.ier → ∃ sz v, i = .sWIer sz v) ∧ (t.spi.isr ≠ s.spi.isr → ∃ sz v, i = .sWIsr sz v) ∧
    (t.spi.fcr ≠ s.spi.fcr → ∃ sz v, i = .sWFcr sz v) ∧ (t.spi.wcr ≠ s.spi.wcr → ∃ sz v, i = .sWWcr sz v) ∧
    (t.spi.ccr ≠ s.spi.ccr → ∃ sz v, i = .sWCcr sz v) ∧ (t.spi.mbc ≠ s.spi.mbc → ∃ sz v, i = .sWMbc sz v) ∧
    (t.spi.mtc ≠ s.spi.mtc → ∃ sz v, i = .sWMtc sz v) ∧ (t.spi.bcc ≠ s.spi.bcc → ∃ sz v, i = .sWBcc sz v) ∧
    (t.spi.dmactl ≠ s.spi.dmactl → ∃ sz v, i = .sWDmactl sz v) ∧
    (t.cpucfg.genCtrl ≠ s.cpucfg.genCtrl → ∃ v, i = .cWGenCtrl v) ∧
    (t.cpucfg.superStandby ≠ s.cpucfg.superStandby → ∃ v, i = .cWSuperStandby v) ∧
    (t.cpucfg.entryAddr ≠ s.cpucfg.entryAddr → ∃ v, i = .cWEntryAddr v) ∧
    ∀ r, readReg40 t.cpucfg.r40 r ≠ readReg40 s.cpucfg.r40 r → ∃ v, i = r40WriteInstr v r

/-- R25: of all operations only TXD writes, TCR writes and FCR writes change TX, and only a TXD write lengthens it; only
RXD reads, TCR writes and FCR writes change RX, and only a TCR write lengthens it. A reset event, which is no operation,
empties both (R25, R261; `ResetOfSpi`). -/
def Obligations.NoOtherOperationChangesAQueue : Prop :=
  ∀ (i : Instr) (s : State), ∃ t, exec i s = .next t ∧
    (t.spi.tx ≠ s.spi.tx → (∃ sz v, i = .sWTxd sz v) ∨ (∃ sz v, i = .sWTcr sz v) ∨ ∃ sz v, i = .sWFcr sz v) ∧
    (s.spi.tx.items.length < t.spi.tx.items.length → ∃ sz v, i = .sWTxd sz v) ∧
    (t.spi.rx ≠ s.spi.rx → (∃ sz, i = .sRRxd sz) ∨ (∃ sz v, i = .sWTcr sz v) ∨ ∃ sz v, i = .sWFcr sz v) ∧
    (s.spi.rx.items.length < t.spi.rx.items.length → ∃ sz v, i = .sWTcr sz v)

/-- R71, R120: a read changes no stored register and calls no collaborator; only an RXD read changes a queue; and a
read of a register that exists in the variant and is neither a rejected direction nor unimplemented also logs nothing. -/
def Obligations.ReadsHaveNoOtherSideEffects : Prop :=
  ∀ (i : Instr) (s : State), dirOf i = .read → ∃ t es, exec i s = .next t ∧
    t.history = s.history ++ es ∧ (∀ e ∈ es, isDiag e = true) ∧ t.script = s.script ∧ t.cpucfg = s.cpucfg ∧
    ((∀ sz, i ≠ .sRRxd sz) → t.spi = s.spi) ∧
    (∀ sz, i = .sRRxd sz → t.spi = { s.spi with rx := t.spi.rx } ∧ es = []) ∧
    (es ≠ [] → (∃ sz, i = .sRTxd sz) ∨ (∃ sz off, i = .sRUnknown sz off) ∨ (∃ off, i = .cRUnknown off) ∨
      i = .cRUnimpDbgExtern ∨ i = .cRUnimpCnt64Ctrl ∨ i = .cRUnimpCnt64Low ∨ i = .cRUnimpCnt64High ∨
      (s.cfg.variant = .base ∧ ∃ r, i = r40ReadInstr r))
end

