-- ==== Sys2Proof/Laws/Queue.lean ====
section
/-! SUPPORT. The laws of the queue primitives (spec/40_fifo.md): what each does to the contents and the capacity. -/

namespace Sys2Proof.Machine

variable (q : WordQueue) (w : Word)

@[simp] theorem WordQueue.create_cap (n : Nat) : (WordQueue.create n).cap = n := rfl
@[simp] theorem WordQueue.create_items (n : Nat) : (WordQueue.create n).items = [] := rfl
@[simp] theorem WordQueue.reset_cap : q.reset.cap = q.cap := rfl
@[simp] theorem WordQueue.reset_items : q.reset.items = [] := rfl

@[simp] theorem WordQueue.push_cap : (q.push w).cap = q.cap := by
  unfold WordQueue.push
  split <;> rfl

/-- A push onto a queue with room appends the word. -/
theorem WordQueue.push_of_lt (h : q.items.length < q.cap) :
    q.push w = { q with items := q.items ++ [w] } := if_pos h

/-- A push onto a queue without room changes nothing. -/
theorem WordQueue.push_of_ge (h : q.cap ≤ q.items.length) : q.push w = q :=
  if_neg (Nat.not_lt.mpr h)

@[simp] theorem WordQueue.pop_cap : q.pop.2.cap = q.cap := by
  unfold WordQueue.pop
  split <;> rfl

/-- A pop of a queue that holds a word gives the oldest one and keeps the others. -/
theorem WordQueue.pop_cons {h : Word} {t : List Word} (hq : q.items = h :: t) :
    q.pop = (h, { q with items := t }) := by
  simp [WordQueue.pop, hq]

/-- A pop of an empty queue gives 0 and changes nothing. -/
theorem WordQueue.pop_nil (hq : q.items = []) : q.pop = (0, q) := by
  simp [WordQueue.pop, hq]

/-- A push never makes a queue that is within its capacity exceed it. -/
theorem WordQueue.push_length_le (h : q.items.length ≤ q.cap) : (q.push w).items.length ≤ q.cap := by
  unfold WordQueue.push
  split
  · rw [List.length_append]
    simpa using Nat.succ_le_of_lt ‹_›
  · exact h

/-- A pop never makes a queue longer. -/
theorem WordQueue.pop_length_le : q.pop.2.items.length ≤ q.items.length := by
  unfold WordQueue.pop
  split
  · exact Nat.le_refl _
  · simp [*]

/-- `q_full` says that the count is the capacity. -/
theorem WordQueue.full_iff : q.full = true ↔ q.items.length = q.cap := by
  simp [WordQueue.full]

end Sys2Proof.Machine
end

