-- ==== Sys2Proof/Laws/State.lean ====
section
/-! SUPPORT. One lemma for each field of the state under each update, so that no later proof unfolds an update. -/

namespace Sys2Proof.Machine

variable (s : State)

@[simp] theorem State.setSpi_cfg (b : SpiBlock) : (s.setSpi b).cfg = s.cfg := rfl
@[simp] theorem State.setSpi_spi (b : SpiBlock) : (s.setSpi b).spi = b := rfl
@[simp] theorem State.setSpi_cpucfg (b : SpiBlock) : (s.setSpi b).cpucfg = s.cpucfg := rfl
@[simp] theorem State.setSpi_history (b : SpiBlock) : (s.setSpi b).history = s.history := rfl
@[simp] theorem State.setSpi_script (b : SpiBlock) : (s.setSpi b).script = s.script := rfl
@[simp] theorem State.setSpi_pending (b : SpiBlock) : (s.setSpi b).pending = s.pending := rfl
@[simp] theorem State.setSpi_replies (b : SpiBlock) : (s.setSpi b).replies = s.replies := rfl

@[simp] theorem State.setCpucfg_cfg (b : CpucfgBlock) : (s.setCpucfg b).cfg = s.cfg := rfl
@[simp] theorem State.setCpucfg_spi (b : CpucfgBlock) : (s.setCpucfg b).spi = s.spi := rfl
@[simp] theorem State.setCpucfg_cpucfg (b : CpucfgBlock) : (s.setCpucfg b).cpucfg = b := rfl
@[simp] theorem State.setCpucfg_history (b : CpucfgBlock) : (s.setCpucfg b).history = s.history := rfl
@[simp] theorem State.setCpucfg_script (b : CpucfgBlock) : (s.setCpucfg b).script = s.script := rfl
@[simp] theorem State.setCpucfg_pending (b : CpucfgBlock) : (s.setCpucfg b).pending = s.pending := rfl
@[simp] theorem State.setCpucfg_replies (b : CpucfgBlock) : (s.setCpucfg b).replies = s.replies := rfl

@[simp] theorem State.setScript_cfg (e : Script) : (s.setScript e).cfg = s.cfg := rfl
@[simp] theorem State.setScript_spi (e : Script) : (s.setScript e).spi = s.spi := rfl
@[simp] theorem State.setScript_cpucfg (e : Script) : (s.setScript e).cpucfg = s.cpucfg := rfl
@[simp] theorem State.setScript_history (e : Script) : (s.setScript e).history = s.history := rfl
@[simp] theorem State.setScript_script (e : Script) : (s.setScript e).script = e := rfl
@[simp] theorem State.setScript_pending (e : Script) : (s.setScript e).pending = s.pending := rfl
@[simp] theorem State.setScript_replies (e : Script) : (s.setScript e).replies = s.replies := rfl

@[simp] theorem State.setPending_cfg (ms : List HostMove) : (s.setPending ms).cfg = s.cfg := rfl
@[simp] theorem State.setPending_spi (ms : List HostMove) : (s.setPending ms).spi = s.spi := rfl
@[simp] theorem State.setPending_cpucfg (ms : List HostMove) : (s.setPending ms).cpucfg = s.cpucfg := rfl
@[simp] theorem State.setPending_history (ms : List HostMove) : (s.setPending ms).history = s.history := rfl
@[simp] theorem State.setPending_script (ms : List HostMove) : (s.setPending ms).script = s.script := rfl
@[simp] theorem State.setPending_pending (ms : List HostMove) : (s.setPending ms).pending = ms := rfl
@[simp] theorem State.setPending_replies (ms : List HostMove) : (s.setPending ms).replies = s.replies := rfl

@[simp] theorem State.emit_cfg (e : Event) : (s.emit e).cfg = s.cfg := rfl
@[simp] theorem State.emit_spi (e : Event) : (s.emit e).spi = s.spi := rfl
@[simp] theorem State.emit_cpucfg (e : Event) : (s.emit e).cpucfg = s.cpucfg := rfl
@[simp] theorem State.emit_history (e : Event) : (s.emit e).history = s.history ++ [e] := rfl
@[simp] theorem State.emit_script (e : Event) : (s.emit e).script = s.script := rfl
@[simp] theorem State.emit_pending (e : Event) : (s.emit e).pending = s.pending := rfl
@[simp] theorem State.emit_replies (e : Event) : (s.emit e).replies = s.replies := rfl

@[simp] theorem State.log_cfg (u : Block) (c : DiagCode) (o : Offset) (i : DiagInfo) : (s.log u c o i).cfg = s.cfg := rfl
@[simp] theorem State.log_spi (u : Block) (c : DiagCode) (o : Offset) (i : DiagInfo) : (s.log u c o i).spi = s.spi := rfl
@[simp] theorem State.log_cpucfg (u : Block) (c : DiagCode) (o : Offset) (i : DiagInfo) : (s.log u c o i).cpucfg = s.cpucfg := rfl
@[simp] theorem State.log_history (u : Block) (c : DiagCode) (o : Offset) (i : DiagInfo) : (s.log u c o i).history = s.history ++ [.diag u c o i] := rfl
@[simp] theorem State.log_script (u : Block) (c : DiagCode) (o : Offset) (i : DiagInfo) : (s.log u c o i).script = s.script := rfl
@[simp] theorem State.log_pending (u : Block) (c : DiagCode) (o : Offset) (i : DiagInfo) : (s.log u c o i).pending = s.pending := rfl
@[simp] theorem State.log_replies (u : Block) (c : DiagCode) (o : Offset) (i : DiagInfo) : (s.log u c o i).replies = s.replies := rfl

@[simp] theorem State.reply_cfg (r : Reply) : (s.reply r).cfg = s.cfg := rfl
@[simp] theorem State.reply_spi (r : Reply) : (s.reply r).spi = s.spi := rfl
@[simp] theorem State.reply_cpucfg (r : Reply) : (s.reply r).cpucfg = s.cpucfg := rfl
@[simp] theorem State.reply_history (r : Reply) : (s.reply r).history = s.history := rfl
@[simp] theorem State.reply_script (r : Reply) : (s.reply r).script = s.script := rfl
@[simp] theorem State.reply_pending (r : Reply) : (s.reply r).pending = s.pending := rfl
@[simp] theorem State.reply_replies (r : Reply) : (s.reply r).replies = s.replies ++ [r] := rfl

@[simp] theorem State.complete_cfg : s.complete.cfg = s.cfg := rfl
@[simp] theorem State.complete_spi : s.complete.spi = s.spi := rfl
@[simp] theorem State.complete_cpucfg : s.complete.cpucfg = s.cpucfg := rfl
@[simp] theorem State.complete_history : s.complete.history = s.history := rfl
@[simp] theorem State.complete_script : s.complete.script = s.script := rfl
@[simp] theorem State.complete_pending : s.complete.pending = s.pending := rfl
@[simp] theorem State.complete_replies : s.complete.replies = s.replies ++ [.done] := rfl

@[simp] theorem State.spiResult_cfg (sz : SpiSize) (w : Word) : (s.spiResult sz w).cfg = s.cfg := rfl
@[simp] theorem State.spiResult_spi (sz : SpiSize) (w : Word) : (s.spiResult sz w).spi = s.spi := rfl
@[simp] theorem State.spiResult_cpucfg (sz : SpiSize) (w : Word) : (s.spiResult sz w).cpucfg = s.cpucfg := rfl
@[simp] theorem State.spiResult_history (sz : SpiSize) (w : Word) : (s.spiResult sz w).history = s.history := rfl
@[simp] theorem State.spiResult_script (sz : SpiSize) (w : Word) : (s.spiResult sz w).script = s.script := rfl
@[simp] theorem State.spiResult_pending (sz : SpiSize) (w : Word) : (s.spiResult sz w).pending = s.pending := rfl
@[simp] theorem State.spiResult_replies (sz : SpiSize) (w : Word) : (s.spiResult sz w).replies = s.replies ++ [.value sz.bytes (readValue sz w)] := rfl

@[simp] theorem State.cpucfgResult_cfg (w : Word) : (s.cpucfgResult w).cfg = s.cfg := rfl
@[simp] theorem State.cpucfgResult_spi (w : Word) : (s.cpucfgResult w).spi = s.spi := rfl
@[simp] theorem State.cpucfgResult_cpucfg (w : Word) : (s.cpucfgResult w).cpucfg = s.cpucfg := rfl
@[simp] theorem State.cpucfgResult_history (w : Word) : (s.cpucfgResult w).history = s.history := rfl
@[simp] theorem State.cpucfgResult_script (w : Word) : (s.cpucfgResult w).script = s.script := rfl
@[simp] theorem State.cpucfgResult_pending (w : Word) : (s.cpucfgResult w).pending = s.pending := rfl
@[simp] theorem State.cpucfgResult_replies (w : Word) : (s.cpucfgResult w).replies = s.replies ++ [.value 4 w] := rfl

end Sys2Proof.Machine
end

