-- ==== Sys2Proof/Laws/Ops.lean ====
section
/-! SUPPORT. For each shared operation, one lemma that says all it can do. -/

namespace Sys2Proof.Machine

variable (s : State)

/-- An exchange draws an answer and appends one event. -/
theorem State.exchange_spec (t : Word) :
    ∃ r rest, Drawn s.script.exchanges r rest ∧
      s.exchange t = (r, (s.setScript { s.script with exchanges := rest }).emit (.exchange t r)) := by
  unfold State.exchange
  split
  · next h => exact ⟨_, [], .inr ⟨h, rfl⟩, by rw [← h]; rfl⟩
  · next r rs h => exact ⟨r, rs, .inl h, rfl⟩

/-- A lookup draws an answer and appends one event. -/
theorem State.lookup_spec (n : CoreId) :
    ∃ h rest, Drawn s.script.lookups h rest ∧
      s.lookup n = (h, (s.setScript { s.script with lookups := rest }).emit (.lookup n h.isSome)) := by
  unfold State.lookup
  split
  · next h => exact ⟨_, [], .inr ⟨h, rfl⟩, by rw [← h]; rfl⟩
  · next r rs h => exact ⟨r, rs, .inl h, rfl⟩

/-- A power-on request draws an answer and appends one event. -/
theorem State.powerOn_spec (n : CoreId) (entry : BitVec 64) (el : Nat) (is64 : Bool) :
    ∃ r rest, Drawn s.script.powerOns r rest ∧
      s.powerOn n entry el is64
        = (r, (s.setScript { s.script with powerOns := rest }).emit (.powerOn n entry el is64 r)) := by
  unfold State.powerOn
  split
  · next h => exact ⟨_, [], .inr ⟨h, rfl⟩, by rw [← h]; rfl⟩
  · next r rs h => exact ⟨r, rs, .inl h, rfl⟩

/-- A power-off request draws an answer and appends one event. -/
theorem State.powerOff_spec (n : CoreId) :
    ∃ r rest, Drawn s.script.powerOffs r rest ∧
      s.powerOff n = (r, (s.setScript { s.script with powerOffs := rest }).emit (.powerOff n r)) := by
  unfold State.powerOff
  split
  · next h => exact ⟨_, [], .inr ⟨h, rfl⟩, by rw [← h]; rfl⟩
  · next r rs h => exact ⟨r, rs, .inl h, rfl⟩

/-- One turn of the word loop: TX is popped, the exchange is recorded, and RX takes the answer unless it is full. -/
theorem State.burstWord_spec :
    ∃ r rest, Drawn s.script.exchanges r rest ∧
      s.burstWord =
        { s with
          spi := { s.spi with
                   tx := s.spi.tx.pop.2
                   rx := if s.spi.rx.full then s.spi.rx else s.spi.rx.push r }
          history := s.history ++ [.exchange s.spi.tx.pop.1 r]
          script := { s.script with exchanges := rest } } := by
  obtain ⟨r, rest, hd, he⟩ := State.exchange_spec (s.setSpi { s.spi with tx := s.spi.tx.pop.2 }) s.spi.tx.pop.1
  refine ⟨r, rest, hd, ?_⟩
  simp only [State.burstWord, he]
  by_cases hf : s.spi.rx.full = true <;> simp [hf] <;> rfl

/-- The word loop changes block S's queues, the answers still listed and the history, and nothing else. -/
theorem State.burstLoop_frame (n : Nat) :
    ∃ tx rx es rest, s.burstLoop n =
      { s with
        spi := { s.spi with tx := tx, rx := rx }
        history := s.history ++ es
        script := { s.script with exchanges := rest } } := by
  induction n generalizing s with
  | zero => exact ⟨s.spi.tx, s.spi.rx, [], s.script.exchanges, by simp [State.burstLoop]⟩
  | succ n ih =>
    obtain ⟨r, rest, -, hw⟩ := s.burstWord_spec
    obtain ⟨tx, rx, es, rest', hl⟩ := ih s.burstWord
    exact ⟨tx, rx, .exchange s.spi.tx.pop.1 r :: es, rest', by
      rw [State.burstLoop, hl, hw]; simp⟩

/-- The word loop over all of TX: every queued word is exchanged in order, TX ends empty, and RX takes the answers it has
room for. -/
theorem State.burstLoop_spec (n : Nat) : ∀ s : State, s.spi.tx.items.length = n →
    s.spi.rx.items.length ≤ s.spi.rx.cap →
    ∃ answers rest, answers.length = n ∧ DrawnMany s.script.exchanges answers rest ∧
      s.burstLoop n = { s with
        spi := { s.spi with
          tx := { cap := s.spi.tx.cap, items := [] }
          rx := { cap := s.spi.rx.cap
                  items := s.spi.rx.items ++ answers.take (s.spi.rx.cap - s.spi.rx.items.length) } }
        history := s.history ++ List.zipWith Event.exchange s.spi.tx.items answers
        script := { s.script with exchanges := rest } } := by
  induction n with
  | zero =>
    intro s hn _
    refine ⟨[], s.script.exchanges, rfl, ⟨by simp, by simp⟩, ?_⟩
    simp only [State.burstLoop, List.take_nil, List.append_nil, List.zipWith_nil_right]
    rw [← List.length_eq_zero_iff.mp hn]
  | succ n ih =>
    intro s hn hr
    obtain ⟨a, t, hat⟩ := List.exists_cons_of_length_eq_add_one hn
    obtain ⟨r, rest, hd, hw⟩ := s.burstWord_spec
    rw [WordQueue.pop_cons _ hat] at hw
    have hrx : (if s.spi.rx.full = true then s.spi.rx else s.spi.rx.push r) =
        { cap := s.spi.rx.cap, items := s.spi.rx.items ++ [r].take (s.spi.rx.cap - s.spi.rx.items.length) } := by
      by_cases hf : s.spi.rx.items.length = s.spi.rx.cap
      · rw [if_pos (s.spi.rx.full_iff.mpr hf), hf]
        simp
      · rw [if_neg (fun h => hf (s.spi.rx.full_iff.mp h)), WordQueue.push_of_lt _ _ (by omega)]
        rw [List.take_of_length_le (by simp; omega)]
    rw [hrx] at hw
    obtain ⟨as, rest', hl, ⟨hm1, hm2⟩, he⟩ := ih s.burstWord
      (by rw [hw]; rw [hat] at hn; simpa using hn) (by rw [hw]; simp; omega)
    refine ⟨r :: as, rest', by simp [hl], ?_, ?_⟩
    · rw [hw] at hm1 hm2
      simp only at hm1 hm2
      rcases hd with hd | ⟨hd, rfl⟩
      · rw [hd]
        exact ⟨by simp [hm1], by simp [hm2]⟩
      · rw [hd]
        exact ⟨by simp, by simp [hm2]⟩
    · rw [State.burstLoop, he, hw]
      simp only [hat, List.zipWith_cons_cons, List.append_assoc]
      by_cases hf : s.spi.rx.items.length = s.spi.rx.cap
      · simp [hf]
      · have hk : s.spi.rx.cap - s.spi.rx.items.length = (s.spi.rx.cap - s.spi.rx.items.length - 1) + 1 := by omega
        rw [hk, List.take_succ_cons, List.take_succ_cons]
        simp
        omega

/-- The declared length as a number. -/
theorem declaredLength_eq (b : SpiBlock) : declaredLength b = b.mbc.toNat % 2 ^ 24 := by
  simp [declaredLength, BitVec.extractLsb'_toNat]

/-- A burst of declared length 0 logs one warning. -/
theorem State.burst_zero (h : declaredLength s.spi = 0) :
    s.burst = { s with history := s.history ++ [.diag .spi .burstZero 0x008 (.length 0)] } := by
  rw [State.burst]
  simp only [h, if_true]
  rfl

/-- A burst of another declared length exchanges every queued word, after a warning if the length is not their number. -/
theorem State.burst_spec (h : declaredLength s.spi ≠ 0) (hr : s.spi.rx.items.length ≤ s.spi.rx.cap) :
    ∃ answers rest, answers.length = s.spi.tx.items.length ∧ DrawnMany s.script.exchanges answers rest ∧
      s.burst = { s with
        spi := { s.spi with
          tx := { cap := s.spi.tx.cap, items := [] }
          rx := { cap := s.spi.rx.cap
                  items := s.spi.rx.items ++ answers.take (s.spi.rx.cap - s.spi.rx.items.length) } }
        history := s.history
          ++ (if declaredLength s.spi ≠ s.spi.tx.items.length then
                [.diag .spi .burstMismatch 0x008 (.lengths (declaredLength s.spi) s.spi.tx.items.length)] else [])
          ++ List.zipWith Event.exchange s.spi.tx.items answers
        script := { s.script with exchanges := rest } } := by
  by_cases hc : declaredLength s.spi = s.spi.tx.items.length
  · obtain ⟨as, rest, hl, hm, he⟩ := State.burstLoop_spec _ s rfl hr
    refine ⟨as, rest, hl, hm, ?_⟩
    have hb : s.burst = s.burstLoop s.spi.tx.items.length := by
      simp only [State.burst]
      rw [if_neg h]
      exact (if_neg (not_not.mpr hc)).trans (by rw [hc])
    simp [hb, he, hc]
  · obtain ⟨as, rest, hl, hm, he⟩ := State.burstLoop_spec s.spi.tx.items.length (s.log .spi .burstMismatch 0x008
      (.lengths (declaredLength s.spi) s.spi.tx.items.length)) rfl hr
    refine ⟨as, rest, hl, hm, ?_⟩
    have hb : s.burst = (s.log .spi .burstMismatch 0x008
        (.lengths (declaredLength s.spi) s.spi.tx.items.length)).burstLoop s.spi.tx.items.length := by
      simp only [State.burst]
      rw [if_neg h]
      exact if_pos hc
    rw [hb, he]
    simp only [State.log, State.emit]
    rw [if_pos hc]

/-- A burst changes block S's queues, the answers still listed and the history, and nothing else. -/
theorem State.burst_frame :
    ∃ tx rx es rest, s.burst =
      { s with
        spi := { s.spi with tx := tx, rx := rx }
        history := s.history ++ es
        script := { s.script with exchanges := rest } } := by
  simp only [State.burst]
  split
  · exact ⟨s.spi.tx, s.spi.rx, [_], s.script.exchanges, rfl⟩
  · split
    · obtain ⟨tx, rx, es, rest, hl⟩ := State.burstLoop_frame
        (s.log .spi .burstMismatch SpiReg.tcr.offset (.lengths (declaredLength s.spi) s.spi.tx.count)) s.spi.tx.count
      exact ⟨tx, rx, .diag .spi .burstMismatch SpiReg.tcr.offset
        (.lengths (declaredLength s.spi) s.spi.tx.count) :: es, rest, by rw [hl]; simp⟩
    · exact State.burstLoop_frame s _

/-- reset_core looks the core up; if it is found, one power-on request follows, and a failure is logged. -/
theorem State.resetCore_spec (n : CoreId) (off : Offset) :
    ∃ h ls, Drawn s.script.lookups h ls ∧
      ((h = none ∧
          s.resetCore n off =
            { s with history := s.history ++ [.lookup n false], script := { s.script with lookups := ls } }) ∨
        ∃ c r ps, h = some c ∧ Drawn s.script.powerOns r ps ∧
          s.resetCore n off =
            { s with
              history := s.history
                ++ [.lookup n true, .powerOn n (s.cpucfg.entryAddr.setWidth 64) elHighest c.is64 r]
                ++ (if r = .err then [.diag .cpucfg .powerOnFail off (.core n .err)] else [])
              script := { s.script with lookups := ls, powerOns := ps } }) := by
  obtain ⟨h, ls, hd, he⟩ := s.lookup_spec n
  refine ⟨h, ls, hd, ?_⟩
  cases h with
  | none => exact .inl ⟨rfl, by simp only [State.resetCore, he]; rfl⟩
  | some c =>
    obtain ⟨r, ps, hp, hr⟩ := State.powerOn_spec (s.lookup n).2 n (s.cpucfg.entryAddr.setWidth 64) elHighest c.is64
    rw [he] at hp hr
    refine .inr ⟨c, r, ps, rfl, hp, ?_⟩
    simp only [State.resetCore, he, State.emit_cpucfg, State.setScript_cpucfg] at hr ⊢
    rw [hr]
    cases r <;> simp [State.log, State.emit, State.setScript]

/-- power_switch(n, off) makes one power-off request, and a failure is logged. -/
theorem State.powerSwitchOff_spec (n : CoreId) (off : Offset) :
    ∃ r ps, Drawn s.script.powerOffs r ps ∧
      s.powerSwitchOff n off =
        { s with
          history := s.history ++ [.powerOff n r]
            ++ (if r = .err then [.diag .cpucfg .powerOffFail off (.core n .err)] else [])
          script := { s.script with powerOffs := ps } } := by
  obtain ⟨r, ps, hd, he⟩ := s.powerOff_spec n
  refine ⟨r, ps, hd, ?_⟩
  simp only [State.powerSwitchOff, he]
  cases r <;> simp [State.log, State.emit, State.setScript]

end Sys2Proof.Machine
end

