-- ==== Sys2Proof/Laws/Cpucfg.lean ====
section
/-! SUPPORT. For each operation that several meanings of block C share, one lemma that says all it can do. -/

namespace Sys2Proof.Machine

variable (s : State)

/-- A register read after a write of one register: the value written there, every other register as before. -/
theorem readReg40_writeReg40 (f : R40Regs) (r r' : R40Reg) (v : Word) :
    readReg40 (writeReg40 f r v) r' = if r' = r then v else readReg40 f r' := by
  cases r <;> cases r' <;> simp [readReg40, writeReg40, Vector.getElem_set, Fin.ext_iff, eq_comm]

/-- In the r40 variant a read of an r40 register returns it and changes nothing. -/
theorem State.readR40_r40 (hv : s.cfg.variant = .r40) (r : R40Reg) :
    s.readR40 r = { s with replies := s.replies ++ [.value 4 (readReg40 s.cpucfg.r40 r)] } := by
  rw [State.readR40, hv]; rfl

/-- In the base variant a read of an r40 slot is a logged read of an unknown offset. -/
theorem State.readR40_base (hv : s.cfg.variant = .base) (r : R40Reg) :
    s.readR40 r = { s with
      history := s.history ++ [.diag .cpucfg .unknownOffset (r40Offset s.cfg.r40Layout r) .none]
      replies := s.replies ++ [.value 4 0] } := by
  rw [State.readR40, hv]; rfl

/-- In the r40 variant a write of an r40 register that is no power switch replaces it and changes nothing else. -/
theorem State.writeR40_r40 (hv : s.cfg.variant = .r40) (r : R40Reg) (v : Word) :
    s.writeR40 r v = { s with
      cpucfg := { s.cpucfg with r40 := writeReg40 s.cpucfg.r40 r v }
      replies := s.replies ++ [.done] } := by
  rw [State.writeR40, hv]; rfl

/-- In the base variant a write of an r40 slot is a logged write of an unknown offset. -/
theorem State.writeR40_base (hv : s.cfg.variant = .base) (r : R40Reg) (v : Word) :
    s.writeR40 r v = { s with
      history := s.history ++ [.diag .cpucfg .unknownOffset (r40Offset s.cfg.r40Layout r) (.value v)]
      replies := s.replies ++ [.done] } := by
  rw [State.writeR40, hv]; rfl

/-- In the base variant a write of a power switch's slot is a logged write of an unknown offset. -/
theorem State.writePsw_base (hv : s.cfg.variant = .base) (n : CoreId) (v : Word) :
    s.writePsw n v = { s with
      history := s.history ++ [.diag .cpucfg .unknownOffset (r40Offset s.cfg.r40Layout (.psw n)) (.value v)]
      replies := s.replies ++ [.done] } := by
  rw [State.writePsw, hv]; rfl

/-- In the r40 variant a write of a power switch other than 0x000000FF stores and changes nothing else. -/
theorem State.writePsw_of_ne (hv : s.cfg.variant = .r40) (n : CoreId) (v : Word) (h : v ≠ 0x000000FF) :
    s.writePsw n v = { s with
      cpucfg := { s.cpucfg with r40 := writeReg40 s.cpucfg.r40 (.psw n) v }
      replies := s.replies ++ [.done] } := by
  rw [State.writePsw, hv]
  dsimp only
  rw [if_neg h]
  split <;> rfl

/-- In the r40 variant a write of 0x000000FF to a power switch stores and makes one power-off request. -/
theorem State.writePsw_off (hv : s.cfg.variant = .r40) (n : CoreId) :
    ∃ r ps, Drawn s.script.powerOffs r ps ∧ s.writePsw n 0x000000FF = { s with
      cpucfg := { s.cpucfg with r40 := writeReg40 s.cpucfg.r40 (.psw n) 0x000000FF }
      history := s.history ++ [.powerOff n r]
        ++ (if r = .err then [.diag .cpucfg .powerOffFail (r40Offset s.cfg.r40Layout (.psw n)) (.core n .err)] else [])
      script := { s.script with powerOffs := ps }
      replies := s.replies ++ [.done] } := by
  obtain ⟨r, ps, hd, he⟩ := (s.storeR40 (.psw n) 0xFF).powerSwitchOff_spec n (r40Offset s.cfg.r40Layout (.psw n))
  refine ⟨r, ps, hd, ?_⟩
  rw [State.writePsw, hv]
  dsimp only
  rw [if_pos rfl, he]
  rfl

/-- A write of 0 to a reset-control register does nothing. -/
theorem State.writeRstCtrl_zero (n : CoreId) :
    s.writeRstCtrl n 0 = { s with replies := s.replies ++ [.done] } := rfl

/-- Every other value calls reset_core. -/
theorem State.writeRstCtrl_of_ne (n : CoreId) (v : Word) (h : v ≠ 0) :
    s.writeRstCtrl n v = (s.resetCore n (CpucfgReg.offset s.cfg (.rstCtrl n))).complete := by
  rw [State.writeRstCtrl, if_pos h]

end Sys2Proof.Machine
end

