-- ==== Sys2Proof/Laws/Decode.lean ====
section
/-! SUPPORT. The fields of an assembled descriptor, and the offsets that the register maps give back. -/

namespace Sys2Proof

section Descriptor

variable (u : Block) (sz : BitVec 2) (dir : Dir) (off : Offset)

@[simp] theorem descUnit_mkDescriptor : descUnit (mkDescriptor u sz dir off) = u := by
  cases u <;> cases dir <;> simp [descUnit, mkDescriptor, BitVec.getElem_setWidth]

@[simp] theorem descReserved_mkDescriptor : descReserved (mkDescriptor u sz dir off) = 0 := by
  unfold descReserved mkDescriptor
  ext i hi
  have h : i = 0 ∨ i = 1 := by omega
  rcases h with rfl | rfl <;> cases u <;> cases dir <;> simp [BitVec.getElem_setWidth]

@[simp] theorem descSize_mkDescriptor : descSize (mkDescriptor u sz dir off) = sz.toNat + 1 := by
  have h : (mkDescriptor u sz dir off).extractLsb' 11 2 = sz := by
    unfold mkDescriptor
    ext i hi
    have hi' : i = 0 ∨ i = 1 := by omega
    rcases hi' with rfl | rfl <;> cases u <;> cases dir <;> simp [BitVec.getElem_setWidth, BitVec.getLsbD_eq_getElem]
  rw [descSize, h]

@[simp] theorem descDir_mkDescriptor : descDir (mkDescriptor u sz dir off) = dir := by
  cases u <;> cases dir <;> simp [descDir, mkDescriptor, BitVec.getElem_setWidth]

@[simp] theorem descOff_mkDescriptor : descOff (mkDescriptor u sz dir off) = off := by
  unfold descOff mkDescriptor
  ext i hi
  have hi' : i < 16 := by omega
  have h11 : i < 11 := by omega
  have hc : (0x8000#16).getLsbD i = false ∧ (0x0400#16).getLsbD i = false := by
    revert hi; revert i; decide
  cases u <;> cases dir <;> simp [hi', h11, hc.1, hc.2, BitVec.getLsbD_eq_getElem hi, -BitVec.getLsbD_eq_getElem]

end Descriptor

@[simp] theorem lowBytes_b4 (w : Word) : lowBytes .b4 w = w :=
  BitVec.and_allOnes

/-- The low bytes of the low bytes are the low bytes. -/
theorem lowBytes_idem (sz : SpiSize) (w : Word) : lowBytes sz (lowBytes sz w) = lowBytes sz w := by
  rw [lowBytes, lowBytes, BitVec.and_assoc, BitVec.and_self]

/-- A register of S is found at its own offset. -/
theorem SpiReg.ofOffset_offset (r : SpiReg) : SpiReg.ofOffset r.offset = some r := by
  cases r <;> decide

/-- Only a register's own offset gives the register. -/
theorem SpiReg.offset_of_ofOffset {off : Offset} {r : SpiReg} (h : SpiReg.ofOffset off = some r) : r.offset = off := by
  simpa using List.find?_some h

/-- Only a register's own offset gives the register. -/
theorem CpucfgReg.offset_of_ofOffset {cfg : Config} {off : Offset} {r : CpucfgReg}
    (h : CpucfgReg.ofOffset cfg off = some r) : r.offset cfg = off := by
  simpa using List.find?_some h

/-- A register that an offset gives is in the active variant's map. -/
theorem CpucfgReg.mem_map_of_ofOffset {cfg : Config} {off : Offset} {r : CpucfgReg}
    (h : CpucfgReg.ofOffset cfg off = some r) : r ∈ cpucfgMap cfg :=
  List.mem_of_find?_eq_some h

/-- Every r40 register is in the listing. -/
theorem R40Reg.mem_all (r : R40Reg) : r ∈ R40Reg.all := by
  cases r with
  | psw n => revert n; decide
  | pwrupCfg k => revert k; decide
  | _ => decide

/-- An admissible layout has fourteen slots and a slot for every register. -/
theorem layoutOk_iff (l : List R40Reg) : layoutOk l = true ↔ l.length = 14 ∧ ∀ r, r ∈ l := by
  simp [layoutOk, R40Reg.mem_all]

/-- A register's slot number is below 14. -/
theorem idxOf_lt_of_layoutOk {l : List R40Reg} (h : layoutOk l = true) (r : R40Reg) : l.idxOf r < 14 := by
  obtain ⟨hl, hm⟩ := (layoutOk_iff l).mp h
  rw [← hl]
  exact List.idxOf_lt_length_of_mem (hm r)

/-- The offset of an r40 register as a number. -/
theorem r40Offset_toNat {l : List R40Reg} (h : layoutOk l = true) (r : R40Reg) :
    (r40Offset l r).toNat = 0x140 + 4 * l.idxOf r := by
  have := idxOf_lt_of_layoutOk h r
  simp only [r40Offset, BitVec.toNat_ofNat]
  omega

/-- Two r40 registers never share a slot. -/
theorem r40Offset_injective {l : List R40Reg} (h : layoutOk l = true) {r r' : R40Reg}
    (he : r40Offset l r = r40Offset l r') : r = r' := by
  have hn := congrArg BitVec.toNat he
  rw [r40Offset_toNat h, r40Offset_toNat h] at hn
  exact (List.idxOf_inj (((layoutOk_iff l).mp h).2 r)).mp (by omega)

end Sys2Proof
end

