-- ==== Sys2Proof/Laws/Operands.lean ====
section
/-! SUPPORT. The operand forms as numbers, and the windows as ranges. -/

namespace Sys2Proof.Machine

/-- The low bytes of a word are the slice of its low bits. -/
theorem lowBytes_eq_sliceLow (sz : SpiSize) (w : Word) : lowBytes sz w = sliceLow sz w := by
  apply BitVec.eq_of_toNat_eq
  have h8 : w.toNat &&& 255 = w.toNat % 256 := Nat.and_two_pow_sub_one_eq_mod w.toNat 8
  have h16 : w.toNat &&& 65535 = w.toNat % 65536 := Nat.and_two_pow_sub_one_eq_mod w.toNat 16
  have h32 : w.toNat &&& 4294967295 = w.toNat % 4294967296 := Nat.and_two_pow_sub_one_eq_mod w.toNat 32
  cases sz <;> simp [lowBytes, sliceLow, SpiSize.mask, SpiSize.bytes, BitVec.toNat_and, h8, h16, h32] <;> omega

/-- A cleared bit reads 0. -/
theorem getLsbD_clearBit (k : Fin 32) (v : Word) : (clearBit k v).getLsbD k = false := by
  simp only [clearBit, BitVec.getLsbD_and, BitVec.getLsbD_not, bit, BitVec.getLsbD_ofNat, Nat.testBit_two_pow]
  simp

/-- Two bits cleared one after the other. -/
theorem clearBit_clearBit (k l : Fin 32) (v : Word) : clearBit k (clearBit l v) = v &&& ~~~ (bit l ||| bit k) := by
  simp [clearBit, BitVec.not_or, BitVec.and_assoc]

/-- A window holds the 0x400 addresses from its base. -/
theorem inWindow_eq (base a : Nat) : inWindow base a = decide (base ≤ a ∧ a < base + 0x400) := by
  rw [Bool.eq_iff_iff]
  unfold inWindow
  simp only [Bool.and_eq_true, decide_eq_true_eq]
  rfl

end Sys2Proof.Machine
end

