-- ==== Sys2Proof/Laws/PerInstr.lean ====
section
/-! SUPPORT. Statements about every operation as syntax, one lemma for each constructor. -/

namespace Sys2Proof.Laws.DescriptorFields

open Sys2Proof.Machine

/-- The encoded descriptor has RES = 00, and its U and D fields name the operation's block and direction (R80, R83). -/
def Statement (i : Instr) : Prop :=
  ∀ cfg, descReserved (encode cfg i).desc = 0 ∧ descUnit (encode cfg i).desc = blockOf i
    ∧ descDir (encode cfg i).desc = dirOf i

/-- An operation whose descriptor is assembled from its block and direction has the fields it should. -/
theorem of_desc {i : Instr} (u : Block) (sz : BitVec 2) (dir : Dir) (off : Config → Offset)
    (he : ∀ cfg, (encode cfg i).desc = mkDescriptor u sz dir (off cfg)) (hu : blockOf i = u) (hd : dirOf i = dir) :
    Statement i := by
  intro cfg
  rw [he, hu, hd]
  exact ⟨descReserved_mkDescriptor .., descUnit_mkDescriptor .., descDir_mkDescriptor ..⟩

/-- A read of S. -/
theorem of_spiRead {i : Instr} (sz : SpiSize) (off : Offset) (he : ∀ cfg, encode cfg i = spiRead sz off)
    (hu : blockOf i = .spi) (hd : dirOf i = .read) : Statement i :=
  of_desc .spi sz.field .read (fun _ => off) (fun cfg => by rw [he, spiRead]) hu hd

/-- A write of S. -/
theorem of_spiWrite {i : Instr} (sz : SpiSize) (off : Offset) (data : Word)
    (he : ∀ cfg, encode cfg i = spiWrite sz off data) (hu : blockOf i = .spi) (hd : dirOf i = .write) : Statement i :=
  of_desc .spi sz.field .write (fun _ => off) (fun cfg => by rw [he, spiWrite]) hu hd

/-- A read of C. -/
theorem of_cpucfgRead {i : Instr} (off : Config → Offset) (he : ∀ cfg, encode cfg i = cpucfgRead (off cfg))
    (hu : blockOf i = .cpucfg) (hd : dirOf i = .read) : Statement i :=
  of_desc .cpucfg 3 .read off (fun cfg => by rw [he, cpucfgRead]) hu hd

/-- A write of C. -/
theorem of_cpucfgWrite {i : Instr} (off : Config → Offset) (data : Word)
    (he : ∀ cfg, encode cfg i = cpucfgWrite (off cfg) data) (hu : blockOf i = .cpucfg) (hd : dirOf i = .write) :
    Statement i :=
  of_desc .cpucfg 3 .write off (fun cfg => by rw [he, cpucfgWrite]) hu hd

theorem sRGcr (sz : SpiSize) : Statement (.sRGcr sz) :=
  of_spiRead sz (SpiReg.offset .gcr) (fun _ => rfl) rfl rfl
theorem sWGcr (sz : SpiSize) (data : Word) : Statement (.sWGcr sz data) :=
  of_spiWrite sz (SpiReg.offset .gcr) data (fun _ => rfl) rfl rfl
theorem sRTcr (sz : SpiSize) : Statement (.sRTcr sz) :=
  of_spiRead sz (SpiReg.offset .tcr) (fun _ => rfl) rfl rfl
theorem sWTcr (sz : SpiSize) (data : Word) : Statement (.sWTcr sz data) :=
  of_spiWrite sz (SpiReg.offset .tcr) data (fun _ => rfl) rfl rfl
theorem sRIer (sz : SpiSize) : Statement (.sRIer sz) :=
  of_spiRead sz (SpiReg.offset .ier) (fun _ => rfl) rfl rfl
theorem sWIer (sz : SpiSize) (data : Word) : Statement (.sWIer sz data) :=
  of_spiWrite sz (SpiReg.offset .ier) data (fun _ => rfl) rfl rfl
theorem sRIsr (sz : SpiSize) : Statement (.sRIsr sz) :=
  of_spiRead sz (SpiReg.offset .isr) (fun _ => rfl) rfl rfl
theorem sWIsr (sz : SpiSize) (data : Word) : Statement (.sWIsr sz data) :=
  of_spiWrite sz (SpiReg.offset .isr) data (fun _ => rfl) rfl rfl
theorem sRFcr (sz : SpiSize) : Statement (.sRFcr sz) :=
  of_spiRead sz (SpiReg.offset .fcr) (fun _ => rfl) rfl rfl
theorem sWFcr (sz : SpiSize) (data : Word) : Statement (.sWFcr sz data) :=
  of_spiWrite sz (SpiReg.offset .fcr) data (fun _ => rfl) rfl rfl
theorem sRFsr (sz : SpiSize) : Statement (.sRFsr sz) :=
  of_spiRead sz (SpiReg.offset .fsr) (fun _ => rfl) rfl rfl
theorem sWFsr (sz : SpiSize) (data : Word) : Statement (.sWFsr sz data) :=
  of_spiWrite sz (SpiReg.offset .fsr) data (fun _ => rfl) rfl rfl
theorem sRWcr (sz : SpiSize) : Statement (.sRWcr sz) :=
  of_spiRead sz (SpiReg.offset .wcr) (fun _ => rfl) rfl rfl
theorem sWWcr (sz : SpiSize) (data : Word) : Statement (.sWWcr sz data) :=
  of_spiWrite sz (SpiReg.offset .wcr) data (fun _ => rfl) rfl rfl
theorem sRCcr (sz : SpiSize) : Statement (.sRCcr sz) :=
  of_spiRead sz (SpiReg.offset .ccr) (fun _ => rfl) rfl rfl
theorem sWCcr (sz : SpiSize) (data : Word) : Statement (.sWCcr sz data) :=
  of_spiWrite sz (SpiReg.offset .ccr) data (fun _ => rfl) rfl rfl
theorem sRMbc (sz : SpiSize) : Statement (.sRMbc sz) :=
  of_spiRead sz (SpiReg.offset .mbc) (fun _ => rfl) rfl rfl
theorem sWMbc (sz : SpiSize) (data : Word) : Statement (.sWMbc sz data) :=
  of_spiWrite sz (SpiReg.offset .mbc) data (fun _ => rfl) rfl rfl
theorem sRMtc (sz : SpiSize) : Statement (.sRMtc sz) :=
  of_spiRead sz (SpiReg.offset .mtc) (fun _ => rfl) rfl rfl
theorem sWMtc (sz : SpiSize) (data : Word) : Statement (.sWMtc sz data) :=
  of_spiWrite sz (SpiReg.offset .mtc) data (fun _ => rfl) rfl rfl
theorem sRBcc (sz : SpiSize) : Statement (.sRBcc sz) :=
  of_spiRead sz (SpiReg.offset .bcc) (fun _ => rfl) rfl rfl
theorem sWBcc (sz : SpiSize) (data : Word) : Statement (.sWBcc sz data) :=
  of_spiWrite sz (SpiReg.offset .bcc) data (fun _ => rfl) rfl rfl
theorem sRDmactl (sz : SpiSize) : Statement (.sRDmactl sz) :=
  of_spiRead sz (SpiReg.offset .dmactl) (fun _ => rfl) rfl rfl
theorem sWDmactl (sz : SpiSize) (data : Word) : Statement (.sWDmactl sz data) :=
  of_spiWrite sz (SpiReg.offset .dmactl) data (fun _ => rfl) rfl rfl
theorem sRTxd (sz : SpiSize) : Statement (.sRTxd sz) :=
  of_spiRead sz (SpiReg.offset .txd) (fun _ => rfl) rfl rfl
theorem sWTxd (sz : SpiSize) (data : Word) : Statement (.sWTxd sz data) :=
  of_spiWrite sz (SpiReg.offset .txd) data (fun _ => rfl) rfl rfl
theorem sRRxd (sz : SpiSize) : Statement (.sRRxd sz) :=
  of_spiRead sz (SpiReg.offset .rxd) (fun _ => rfl) rfl rfl
theorem sWRxd (sz : SpiSize) (data : Word) : Statement (.sWRxd sz data) :=
  of_spiWrite sz (SpiReg.offset .rxd) data (fun _ => rfl) rfl rfl
theorem sRUnknown (sz : SpiSize) (off : Offset) : Statement (.sRUnknown sz off) :=
  of_spiRead sz off (fun _ => rfl) rfl rfl
theorem sWUnknown (sz : SpiSize) (off : Offset) (data : Word) : Statement (.sWUnknown sz off data) :=
  of_spiWrite sz off data (fun _ => rfl) rfl rfl
theorem cRRstCtrl0 : Statement (.cRRstCtrl0) :=
  of_cpucfgRead (CpucfgReg.offset · (.rstCtrl 0)) (fun _ => rfl) rfl rfl
theorem cWRstCtrl0 (data : Word) : Statement (.cWRstCtrl0 data) :=
  of_cpucfgWrite (CpucfgReg.offset · (.rstCtrl 0)) data (fun _ => rfl) rfl rfl
theorem cRRstCtrl1 : Statement (.cRRstCtrl1) :=
  of_cpucfgRead (CpucfgReg.offset · (.rstCtrl 1)) (fun _ => rfl) rfl rfl
theorem cWRstCtrl1 (data : Word) : Statement (.cWRstCtrl1 data) :=
  of_cpucfgWrite (CpucfgReg.offset · (.rstCtrl 1)) data (fun _ => rfl) rfl rfl
theorem cRRstCtrl2 : Statement (.cRRstCtrl2) :=
  of_cpucfgRead (CpucfgReg.offset · (.rstCtrl 2)) (fun _ => rfl) rfl rfl
theorem cWRstCtrl2 (data : Word) : Statement (.cWRstCtrl2 data) :=
  of_cpucfgWrite (CpucfgReg.offset · (.rstCtrl 2)) data (fun _ => rfl) rfl rfl
theorem cRRstCtrl3 : Statement (.cRRstCtrl3) :=
  of_cpucfgRead (CpucfgReg.offset · (.rstCtrl 3)) (fun _ => rfl) rfl rfl
theorem cWRstCtrl3 (data : Word) : Statement (.cWRstCtrl3 data) :=
  of_cpucfgWrite (CpucfgReg.offset · (.rstCtrl 3)) data (fun _ => rfl) rfl rfl
theorem cRCtrl0 : Statement (.cRCtrl0) :=
  of_cpucfgRead (CpucfgReg.offset · (.ctrl 0)) (fun _ => rfl) rfl rfl
theorem cWCtrl0 (data : Word) : Statement (.cWCtrl0 data) :=
  of_cpucfgWrite (CpucfgReg.offset · (.ctrl 0)) data (fun _ => rfl) rfl rfl
theorem cRCtrl1 : Statement (.cRCtrl1) :=
  of_cpucfgRead (CpucfgReg.offset · (.ctrl 1)) (fun _ => rfl) rfl rfl
theorem cWCtrl1 (data : Word) : Statement (.cWCtrl1 data) :=
  of_cpucfgWrite (CpucfgReg.offset · (.ctrl 1)) data (fun _ => rfl) rfl rfl
theorem cRCtrl2 : Statement (.cRCtrl2) :=
  of_cpucfgRead (CpucfgReg.offset · (.ctrl 2)) (fun _ => rfl) rfl rfl
theorem cWCtrl2 (data : Word) : Statement (.cWCtrl2 data) :=
  of_cpucfgWrite (CpucfgReg.offset · (.ctrl 2)) data (fun _ => rfl) rfl rfl
theorem cRCtrl3 : Statement (.cRCtrl3) :=
  of_cpucfgRead (CpucfgReg.offset · (.ctrl 3)) (fun _ => rfl) rfl rfl
theorem cWCtrl3 (data : Word) : Statement (.cWCtrl3 data) :=
  of_cpucfgWrite (CpucfgReg.offset · (.ctrl 3)) data (fun _ => rfl) rfl rfl
theorem cRStatus0 : Statement (.cRStatus0) :=
  of_cpucfgRead (CpucfgReg.offset · (.status 0)) (fun _ => rfl) rfl rfl
theorem cWStatus0 (data : Word) : Statement (.cWStatus0 data) :=
  of_cpucfgWrite (CpucfgReg.offset · (.status 0)) data (fun _ => rfl) rfl rfl
theorem cRStatus1 : Statement (.cRStatus1) :=
  of_cpucfgRead (CpucfgReg.offset · (.status 1)) (fun _ => rfl) rfl rfl
theorem cWStatus1 (data : Word) : Statement (.cWStatus1 data) :=
  of_cpucfgWrite (CpucfgReg.offset · (.status 1)) data (fun _ => rfl) rfl rfl
theorem cRStatus2 : Statement (.cRStatus2) :=
  of_cpucfgRead (CpucfgReg.offset · (.status 2)) (fun _ => rfl) rfl rfl
theorem cWStatus2 (data : Word) : Statement (.cWStatus2 data) :=
  of_cpucfgWrite (CpucfgReg.offset · (.status 2)) data (fun _ => rfl) rfl rfl
theorem cRStatus3 : Statement (.cRStatus3) :=
  of_cpucfgRead (CpucfgReg.offset · (.status 3)) (fun _ => rfl) rfl rfl
theorem cWStatus3 (data : Word) : Statement (.cWStatus3 data) :=
  of_cpucfgWrite (CpucfgReg.offset · (.status 3)) data (fun _ => rfl) rfl rfl
theorem cRGenCtrl : Statement (.cRGenCtrl) :=
  of_cpucfgRead (CpucfgReg.offset · .genCtrl) (fun _ => rfl) rfl rfl
theorem cWGenCtrl (data : Word) : Statement (.cWGenCtrl data) :=
  of_cpucfgWrite (CpucfgReg.offset · .genCtrl) data (fun _ => rfl) rfl rfl
theorem cRSuperStandby : Statement (.cRSuperStandby) :=
  of_cpucfgRead (CpucfgReg.offset · .superStandby) (fun _ => rfl) rfl rfl
theorem cWSuperStandby (data : Word) : Statement (.cWSuperStandby data) :=
  of_cpucfgWrite (CpucfgReg.offset · .superStandby) data (fun _ => rfl) rfl rfl
theorem cREntryAddr : Statement (.cREntryAddr) :=
  of_cpucfgRead (CpucfgReg.offset · .entryAddr) (fun _ => rfl) rfl rfl
theorem cWEntryAddr (data : Word) : Statement (.cWEntryAddr data) :=
  of_cpucfgWrite (CpucfgReg.offset · .entryAddr) data (fun _ => rfl) rfl rfl
theorem cRPwroffGating : Statement (.cRPwroffGating) :=
  of_cpucfgRead (CpucfgReg.offset · (.r40 .pwroffGating)) (fun _ => rfl) rfl rfl
theorem cWPwroffGating (data : Word) : Statement (.cWPwroffGating data) :=
  of_cpucfgWrite (CpucfgReg.offset · (.r40 .pwroffGating)) data (fun _ => rfl) rfl rfl
theorem cRPsw0 : Statement (.cRPsw0) :=
  of_cpucfgRead (CpucfgReg.offset · (.r40 (.psw 0))) (fun _ => rfl) rfl rfl
theorem cWPsw0 (data : Word) : Statement (.cWPsw0 data) :=
  of_cpucfgWrite (CpucfgReg.offset · (.r40 (.psw 0))) data (fun _ => rfl) rfl rfl
theorem cRPsw1 : Statement (.cRPsw1) :=
  of_cpucfgRead (CpucfgReg.offset · (.r40 (.psw 1))) (fun _ => rfl) rfl rfl
theorem cWPsw1 (data : Word) : Statement (.cWPsw1 data) :=
  of_cpucfgWrite (CpucfgReg.offset · (.r40 (.psw 1))) data (fun _ => rfl) rfl rfl
theorem cRPsw2 : Statement (.cRPsw2) :=
  of_cpucfgRead (CpucfgReg.offset · (.r40 (.psw 2))) (fun _ => rfl) rfl rfl
theorem cWPsw2 (data : Word) : Statement (.cWPsw2 data) :=
  of_cpucfgWrite (CpucfgReg.offset · (.r40 (.psw 2))) data (fun _ => rfl) rfl rfl
theorem cRPsw3 : Statement (.cRPsw3) :=
  of_cpucfgRead (CpucfgReg.offset · (.r40 (.psw 3))) (fun _ => rfl) rfl rfl
theorem cWPsw3 (data : Word) : Statement (.cWPsw3 data) :=
  of_cpucfgWrite (CpucfgReg.offset · (.r40 (.psw 3))) data (fun _ => rfl) rfl rfl
theorem cRPswDelay : Statement (.cRPswDelay) :=
  of_cpucfgRead (CpucfgReg.offset · (.r40 .pswDelay)) (fun _ => rfl) rfl rfl
theorem cWPswDelay (data : Word) : Statement (.cWPswDelay data) :=
  of_cpucfgWrite (CpucfgReg.offset · (.r40 .pswDelay)) data (fun _ => rfl) rfl rfl
theorem cRCfgDelay : Statement (.cRCfgDelay) :=
  of_cpucfgRead (CpucfgReg.offset · (.r40 .cfgDelay)) (fun _ => rfl) rfl rfl
theorem cWCfgDelay (data : Word) : Statement (.cWCfgDelay data) :=
  of_cpucfgWrite (CpucfgReg.offset · (.r40 .cfgDelay)) data (fun _ => rfl) rfl rfl
theorem cRPwrdnCfg : Statement (.cRPwrdnCfg) :=
  of_cpucfgRead (CpucfgReg.offset · (.r40 .pwrdnCfg)) (fun _ => rfl) rfl rfl
theorem cWPwrdnCfg (data : Word) : Statement (.cWPwrdnCfg data) :=
  of_cpucfgWrite (CpucfgReg.offset · (.r40 .pwrdnCfg)) data (fun _ => rfl) rfl rfl
theorem cRPwrupCfg0 : Statement (.cRPwrupCfg0) :=
  of_cpucfgRead (CpucfgReg.offset · (.r40 (.pwrupCfg 0))) (fun _ => rfl) rfl rfl
theorem cWPwrupCfg0 (data : Word) : Statement (.cWPwrupCfg0 data) :=
  of_cpucfgWrite (CpucfgReg.offset · (.r40 (.pwrupCfg 0))) data (fun _ => rfl) rfl rfl
theorem cRPwrupCfg1 : Statement (.cRPwrupCfg1) :=
  of_cpucfgRead (CpucfgReg.offset · (.r40 (.pwrupCfg 1))) (fun _ => rfl) rfl rfl
theorem cWPwrupCfg1 (data : Word) : Statement (.cWPwrupCfg1 data) :=
  of_cpucfgWrite (CpucfgReg.offset · (.r40 (.pwrupCfg 1))) data (fun _ => rfl) rfl rfl
theorem cRPwrupCfg2 : Statement (.cRPwrupCfg2) :=
  of_cpucfgRead (CpucfgReg.offset · (.r40 (.pwrupCfg 2))) (fun _ => rfl) rfl rfl
theorem cWPwrupCfg2 (data : Word) : Statement (.cWPwrupCfg2 data) :=
  of_cpucfgWrite (CpucfgReg.offset · (.r40 (.pwrupCfg 2))) data (fun _ => rfl) rfl rfl
theorem cRPwrupCfg3 : Statement (.cRPwrupCfg3) :=
  of_cpucfgRead (CpucfgReg.offset · (.r40 (.pwrupCfg 3))) (fun _ => rfl) rfl rfl
theorem cWPwrupCfg3 (data : Word) : Statement (.cWPwrupCfg3 data) :=
  of_cpucfgWrite (CpucfgReg.offset · (.r40 (.pwrupCfg 3))) data (fun _ => rfl) rfl rfl
theorem cRPwrupCfg4 : Statement (.cRPwrupCfg4) :=
  of_cpucfgRead (CpucfgReg.offset · (.r40 (.pwrupCfg 4))) (fun _ => rfl) rfl rfl
theorem cWPwrupCfg4 (data : Word) : Statement (.cWPwrupCfg4 data) :=
  of_cpucfgWrite (CpucfgReg.offset · (.r40 (.pwrupCfg 4))) data (fun _ => rfl) rfl rfl
theorem cRPwrupCfg5 : Statement (.cRPwrupCfg5) :=
  of_cpucfgRead (CpucfgReg.offset · (.r40 (.pwrupCfg 5))) (fun _ => rfl) rfl rfl
theorem cWPwrupCfg5 (data : Word) : Statement (.cWPwrupCfg5 data) :=
  of_cpucfgWrite (CpucfgReg.offset · (.r40 (.pwrupCfg 5))) data (fun _ => rfl) rfl rfl
theorem cRUnimpDbgExtern : Statement (.cRUnimpDbgExtern) :=
  of_cpucfgRead (CpucfgReg.offset · (.unimp .dbgExtern)) (fun _ => rfl) rfl rfl
theorem cWUnimpDbgExtern (data : Word) : Statement (.cWUnimpDbgExtern data) :=
  of_cpucfgWrite (CpucfgReg.offset · (.unimp .dbgExtern)) data (fun _ => rfl) rfl rfl
theorem cRUnimpCnt64Ctrl : Statement (.cRUnimpCnt64Ctrl) :=
  of_cpucfgRead (CpucfgReg.offset · (.unimp .cnt64Ctrl)) (fun _ => rfl) rfl rfl
theorem cWUnimpCnt64Ctrl (data : Word) : Statement (.cWUnimpCnt64Ctrl data) :=
  of_cpucfgWrite (CpucfgReg.offset · (.unimp .cnt64Ctrl)) data (fun _ => rfl) rfl rfl
theorem cRUnimpCnt64Low : Statement (.cRUnimpCnt64Low) :=
  of_cpucfgRead (CpucfgReg.offset · (.unimp .cnt64Low)) (fun _ => rfl) rfl rfl
theorem cWUnimpCnt64Low (data : Word) : Statement (.cWUnimpCnt64Low data) :=
  of_cpucfgWrite (CpucfgReg.offset · (.unimp .cnt64Low)) data (fun _ => rfl) rfl rfl
theorem cRUnimpCnt64High : Statement (.cRUnimpCnt64High) :=
  of_cpucfgRead (CpucfgReg.offset · (.unimp .cnt64High)) (fun _ => rfl) rfl rfl
theorem cWUnimpCnt64High (data : Word) : Statement (.cWUnimpCnt64High data) :=
  of_cpucfgWrite (CpucfgReg.offset · (.unimp .cnt64High)) data (fun _ => rfl) rfl rfl
theorem cRUnknown (off : Offset) : Statement (.cRUnknown off) :=
  of_cpucfgRead (fun _ => off) (fun _ => rfl) rfl rfl
theorem cWUnknown (off : Offset) (data : Word) : Statement (.cWUnknown off data) :=
  of_cpucfgWrite (fun _ => off) data (fun _ => rfl) rfl rfl

end Sys2Proof.Laws.DescriptorFields
end

