-- ==== Sys2Proof/Machine/Pseudo.lean ====
section
/-! DEFINITION. The pseudo-operations of the host's notation, each the accesses it expands to (spec/30_encoding.md R93,
R94). They are written with 4-byte accesses. -/

namespace Sys2Proof.Machine

/-- `W4 S:off, v` (R93). -/
def spiWrite4 (r : SpiReg) (v : Word) : HostMove :=
  .access (spiWrite .b4 r.offset v)

/-- `W4 C:off, v` (R93). -/
def cpucfgWrite4 (cfg : Config) (r : CpucfgReg) (v : Word) : HostMove :=
  .access (cpucfgWrite (r.offset cfg) v)

/-- `PUSH w` -/
def pushMoves (w : Word) : List HostMove :=
  [spiWrite4 .txd w]

/-- `POP` -/
def popMoves : List HostMove :=
  [.access (spiRead .b4 SpiReg.rxd.offset)]

/-- `START t`: t is the TCR value wanted afterwards. -/
def startMoves (t : Word) : List HostMove :=
  [spiWrite4 .tcr (t ||| 0x80000000)]

/-- `FLUSH f`: f is the FCR value wanted afterwards. -/
def flushMoves (f : Word) : List HostMove :=
  [spiWrite4 .fcr (f ||| 0x80008000)]

/-- `BURST t, w1 ... wk` -/
def burstMoves (t : Word) (ws : List Word) : List HostMove :=
  ws.flatMap pushMoves ++ [spiWrite4 .mbc (BitVec.ofNat 32 ws.length)] ++ startMoves t

/-- `BOOT n, a` -/
def bootMoves (cfg : Config) (n : CoreId) (a : Word) : List HostMove :=
  [cpucfgWrite4 cfg .entryAddr a, cpucfgWrite4 cfg (.rstCtrl n) 1]

/-- `CPUOFF n` (r40) -/
def cpuOffMoves (cfg : Config) (n : CoreId) : List HostMove :=
  [cpucfgWrite4 cfg (.r40 (.psw n)) 0xFF]

/-- `CPUON n` (r40): stores only (R208). -/
def cpuOnMoves (cfg : Config) (n : CoreId) : List HostMove :=
  [cpucfgWrite4 cfg (.r40 (.psw n)) 0x00]

end Sys2Proof.Machine
end

