-- ==== Sys2Proof/Tests/Slice0.lean ====
section
/-! SUPPORT. Named tests: words written out from the tables of spec/30_encoding.md decode to their operations; each
well-formedness check refuses its ill-formed term; vectors of spec/95_test_vectors.md, one step each; and, for each
statement with hypotheses, values that meet them. -/

namespace Sys2Proof.Tests

open Sys2Proof Sys2Proof.Machine

/-- The configuration of the vectors of spec/95_test_vectors.md, over two disjoint windows. -/
def testConfig (v : CpucfgVariant) : Config :=
  { standardConfig with variant := v, spiBase := 0x1000, cpucfgBase := 0x2000 }

/-- After a reset, with the given queue contents. -/
def spiState (tx rx : List Word) : State :=
  { State.launch (testConfig .base) with
    spi := { (State.launch (testConfig .base)).spi with tx := ⟨64, tx⟩, rx := ⟨64, rx⟩ } }

/-- After a reset, with the given length and TX contents, an empty RX, and the peripheral's answers to come. -/
def burstState (mbc : Word) (tx answers : List Word) : State :=
  { spiState tx [] with
    spi := { (spiState tx []).spi with mbc := mbc }
    script := ⟨answers, [], [], []⟩ }

/-- The same length, queues, history and answers, with other contents of the other registers. -/
def otherBurstState (mbc : Word) (tx answers : List Word) : State :=
  { burstState mbc tx answers with
    spi := { (burstState mbc tx answers).spi with gcr := 0, mbc := mbc ||| 0xFF000000 } }

/-- With `n` words in RX and no answer listed. -/
def burstInto (mbc : Word) (tx : List Word) (n : Nat) : State :=
  { burstState mbc tx [7, 7] with
    spi := { (burstState mbc tx [7, 7]).spi with rx := ⟨64, List.replicate n 9⟩ } }

/-- After a reset, with the entry address 0x8000 and the answers of the registry and of the lifecycle manager to come. -/
def cpucfgState (v : CpucfgVariant) (lookups : List (Option CoreHandle)) (powerOns powerOffs : List PowerResult) : State :=
  { State.launch (testConfig v) with
    cpucfg := { (State.launch (testConfig v)).cpucfg with entryAddr := 0x8000 }
    script := ⟨[], lookups, powerOns, powerOffs⟩ }

/-- One access. -/
def access (s : State) (d : Descriptor) (data : Word) : Host.Outcome State Fault Refusal :=
  step { s with pending := [.access ⟨d, data⟩] }

/-- The outcome is a next state of which `p` holds. -/
def nextOf (o : Host.Outcome State Fault Refusal) (p : State → Bool) : Bool :=
  match o with
  | .next t => p t
  | .fault _ => false
  | .refused _ => false

/-- An address is in the window at a base. -/
abbrev inRange (base a : Nat) : Prop :=
  base ≤ a ∧ a < base + 0x400

/-- Why decode refuses a descriptor, if it does. -/
def refusal (m : SubwordMode) (d : Descriptor) : Option RefuseReason :=
  match decode { testConfig .base with subwordMode := m } ⟨d, 0⟩ with
  | .ok _ => none
  | .error r => some r

/-- Every word decodes, with the data operand 0x80C0FFEE, to the operation beside it. -/
def decodesAll (rows : List (Descriptor × Instr)) : Bool :=
  rows.all fun p =>
    match decode standardConfig ⟨p.1, 0x80C0FFEE⟩ with
    | .ok i => i == p.2
    | .error _ => false

/-! ## Decoding: U, RES, SZ, D and OFF written out -/

/-- R88: the 4-byte reads of S, and the unlisted offset 0x000 (R149). -/
theorem test_decode_spi_reads :
    decodesAll
      [(0b0_00_11_0_0000000100, .sRGcr .b4),
       (0b0_00_11_0_0000001000, .sRTcr .b4),
       (0b0_00_11_0_0000010000, .sRIer .b4),
       (0b0_00_11_0_0000010100, .sRIsr .b4),
       (0b0_00_11_0_0000011000, .sRFcr .b4),
       (0b0_00_11_0_0000011100, .sRFsr .b4),
       (0b0_00_11_0_0000100000, .sRWcr .b4),
       (0b0_00_11_0_0000100100, .sRCcr .b4),
       (0b0_00_11_0_0000110000, .sRMbc .b4),
       (0b0_00_11_0_0000110100, .sRMtc .b4),
       (0b0_00_11_0_0000111000, .sRBcc .b4),
       (0b0_00_11_0_0010001000, .sRDmactl .b4),
       (0b0_00_11_0_1000000000, .sRTxd .b4),
       (0b0_00_11_0_1100000000, .sRRxd .b4),
       (0b0_00_11_0_0000000000, .sRUnknown .b4 0x000)] = true := by decide

/-- R88: the 4-byte writes of S, and the unlisted offset 0x3FC (R150). -/
theorem test_decode_spi_writes :
    decodesAll
      [(0b0_00_11_1_0000000100, .sWGcr .b4 0x80C0FFEE),
       (0b0_00_11_1_0000001000, .sWTcr .b4 0x80C0FFEE),
       (0b0_00_11_1_0000010000, .sWIer .b4 0x80C0FFEE),
       (0b0_00_11_1_0000010100, .sWIsr .b4 0x80C0FFEE),
       (0b0_00_11_1_0000011000, .sWFcr .b4 0x80C0FFEE),
       (0b0_00_11_1_0000011100, .sWFsr .b4 0x80C0FFEE),
       (0b0_00_11_1_0000100000, .sWWcr .b4 0x80C0FFEE),
       (0b0_00_11_1_0000100100, .sWCcr .b4 0x80C0FFEE),
       (0b0_00_11_1_0000110000, .sWMbc .b4 0x80C0FFEE),
       (0b0_00_11_1_0000110100, .sWMtc .b4 0x80C0FFEE),
       (0b0_00_11_1_0000111000, .sWBcc .b4 0x80C0FFEE),
       (0b0_00_11_1_0010001000, .sWDmactl .b4 0x80C0FFEE),
       (0b0_00_11_1_1000000000, .sWTxd .b4 0x80C0FFEE),
       (0b0_00_11_1_1100000000, .sWRxd .b4 0x80C0FFEE),
       (0b0_00_11_1_1111111100, .sWUnknown .b4 0x3FC 0x80C0FFEE)] = true := by decide

/-- R89: the reads of C of both variants. -/
theorem test_decode_cpucfg_reads :
    decodesAll
      [(0b1_00_11_0_0001000000, .cRRstCtrl0),
       (0b1_00_11_0_0010000000, .cRRstCtrl1),
       (0b1_00_11_0_0011000000, .cRRstCtrl2),
       (0b1_00_11_0_0100000000, .cRRstCtrl3),
       (0b1_00_11_0_0001000100, .cRCtrl0),
       (0b1_00_11_0_0010000100, .cRCtrl1),
       (0b1_00_11_0_0011000100, .cRCtrl2),
       (0b1_00_11_0_0100000100, .cRCtrl3),
       (0b1_00_11_0_0001001000, .cRStatus0),
       (0b1_00_11_0_0010001000, .cRStatus1),
       (0b1_00_11_0_0011001000, .cRStatus2),
       (0b1_00_11_0_0100001000, .cRStatus3),
       (0b1_00_11_0_0110000100, .cRGenCtrl),
       (0b1_00_11_0_0110100000, .cRSuperStandby),
       (0b1_00_11_0_0110100100, .cREntryAddr)] = true := by decide

/-- R89: the writes of C of both variants. -/
theorem test_decode_cpucfg_writes :
    decodesAll
      [(0b1_00_11_1_0001000000, .cWRstCtrl0 0x80C0FFEE),
       (0b1_00_11_1_0010000000, .cWRstCtrl1 0x80C0FFEE),
       (0b1_00_11_1_0011000000, .cWRstCtrl2 0x80C0FFEE),
       (0b1_00_11_1_0100000000, .cWRstCtrl3 0x80C0FFEE),
       (0b1_00_11_1_0001000100, .cWCtrl0 0x80C0FFEE),
       (0b1_00_11_1_0010000100, .cWCtrl1 0x80C0FFEE),
       (0b1_00_11_1_0011000100, .cWCtrl2 0x80C0FFEE),
       (0b1_00_11_1_0100000100, .cWCtrl3 0x80C0FFEE),
       (0b1_00_11_1_0001001000, .cWStatus0 0x80C0FFEE),
       (0b1_00_11_1_0010001000, .cWStatus1 0x80C0FFEE),
       (0b1_00_11_1_0011001000, .cWStatus2 0x80C0FFEE),
       (0b1_00_11_1_0100001000, .cWStatus3 0x80C0FFEE),
       (0b1_00_11_1_0110000100, .cWGenCtrl 0x80C0FFEE),
       (0b1_00_11_1_0110100000, .cWSuperStandby 0x80C0FFEE),
       (0b1_00_11_1_0110100100, .cWEntryAddr 0x80C0FFEE)] = true := by decide

/-- R90: the reads of the r40 registers, in the default layout. -/
theorem test_decode_r40_reads :
    decodesAll
      [(0b1_00_11_0_0101000000, .cRPwroffGating),
       (0b1_00_11_0_0101000100, .cRPsw0),
       (0b1_00_11_0_0101001000, .cRPsw1),
       (0b1_00_11_0_0101001100, .cRPsw2),
       (0b1_00_11_0_0101010000, .cRPsw3),
       (0b1_00_11_0_0101010100, .cRPswDelay),
       (0b1_00_11_0_0101011000, .cRCfgDelay),
       (0b1_00_11_0_0101011100, .cRPwrdnCfg),
       (0b1_00_11_0_0101100000, .cRPwrupCfg0),
       (0b1_00_11_0_0101100100, .cRPwrupCfg1),
       (0b1_00_11_0_0101101000, .cRPwrupCfg2),
       (0b1_00_11_0_0101101100, .cRPwrupCfg3),
       (0b1_00_11_0_0101110000, .cRPwrupCfg4),
       (0b1_00_11_0_0101110100, .cRPwrupCfg5)] = true := by decide

/-- R90: the writes of the r40 registers, in the default layout. -/
theorem test_decode_r40_writes :
    decodesAll
      [(0b1_00_11_1_0101000000, .cWPwroffGating 0x80C0FFEE),
       (0b1_00_11_1_0101000100, .cWPsw0 0x80C0FFEE),
       (0b1_00_11_1_0101001000, .cWPsw1 0x80C0FFEE),
       (0b1_00_11_1_0101001100, .cWPsw2 0x80C0FFEE),
       (0b1_00_11_1_0101010000, .cWPsw3 0x80C0FFEE),
       (0b1_00_11_1_0101010100, .cWPswDelay 0x80C0FFEE),
       (0b1_00_11_1_0101011000, .cWCfgDelay 0x80C0FFEE),
       (0b1_00_11_1_0101011100, .cWPwrdnCfg 0x80C0FFEE),
       (0b1_00_11_1_0101100000, .cWPwrupCfg0 0x80C0FFEE),
       (0b1_00_11_1_0101100100, .cWPwrupCfg1 0x80C0FFEE),
       (0b1_00_11_1_0101101000, .cWPwrupCfg2 0x80C0FFEE),
       (0b1_00_11_1_0101101100, .cWPwrupCfg3 0x80C0FFEE),
       (0b1_00_11_1_0101110000, .cWPwrupCfg4 0x80C0FFEE),
       (0b1_00_11_1_0101110100, .cWPwrupCfg5 0x80C0FFEE)] = true := by decide

/-- R91: the unimplemented registers of C, and the unlisted offsets 0x000 and 0x3FC (R201, R202). -/
theorem test_decode_unimplemented :
    decodesAll
      [(0b1_00_11_0_0111100100, .cRUnimpDbgExtern),
       (0b1_00_11_0_1010000000, .cRUnimpCnt64Ctrl),
       (0b1_00_11_0_1010000100, .cRUnimpCnt64Low),
       (0b1_00_11_0_1010001000, .cRUnimpCnt64High),
       (0b1_00_11_1_0111100100, .cWUnimpDbgExtern 0x80C0FFEE),
       (0b1_00_11_1_1010000000, .cWUnimpCnt64Ctrl 0x80C0FFEE),
       (0b1_00_11_1_1010000100, .cWUnimpCnt64Low 0x80C0FFEE),
       (0b1_00_11_1_1010001000, .cWUnimpCnt64High 0x80C0FFEE),
       (0b1_00_11_0_0000000000, .cRUnknown 0x000),
       (0b1_00_11_1_1111111100, .cWUnknown 0x3FC 0x80C0FFEE)] = true := by decide

/-- R82, R86: 1-byte and 2-byte accesses of S; a write's operand is the low bits of the data (vectors S14, S18 to S20, B10, B11). -/
theorem test_decode_sub_word :
    decodesAll
      [(0b0_00_00_0_1100000000, .sRRxd .b1),
       (0b0_00_01_0_0000011100, .sRFsr .b2),
       (0b0_00_00_1_0000000100, .sWGcr .b1 0xEE),
       (0b0_00_01_1_0000001000, .sWTcr .b2 0xFFEE),
       (0b0_00_00_0_0000000101, .sRUnknown .b1 0x005),
       (0b0_00_00_1_0000001011, .sWUnknown .b1 0x00B 0xEE),
       (0b0_00_01_0_0000000110, .sRUnknown .b2 0x006)] = true := by decide

/-- R82, R85, R87: refused descriptors, with the reason (vectors E1 to E4, E6, E7, C16, C17). -/
theorem test_decode_refuses :
    refusal .exactOffset 0x3804 = some .reserved ∧ refusal .exactOffset 0x1004 = some .badSize ∧
    refusal .exactOffset 0x1C06 = some .misaligned ∧ refusal .exactOffset 0x0C05 = some .misaligned ∧
    refusal .exactOffset 0x081C = none ∧ refusal .refuse 0x081C = some .badSize ∧
    refusal .exactOffset 0x81A4 = some .badSize ∧ refusal .exactOffset 0x8DA4 = some .badSize ∧
    refusal .exactOffset 0x99A6 = some .misaligned := by decide

/-- R87 step 3d (vector E8): PSW[0] at 0x144, present in the r40 variant only. -/
theorem test_decode_r40_only_in_r40 :
    decode (testConfig .r40) ⟨0x9D44, 7⟩ = .ok (.cWPsw0 7) ∧
    decode (testConfig .base) ⟨0x9D44, 7⟩ = .ok (.cWUnknown 0x144 7) := by decide

/-- R203: another admissible layout moves the names. -/
theorem test_decode_other_layout :
    decode { testConfig .r40 with r40Layout := R40Reg.all.reverse } ⟨0x9D40, 7⟩ = .ok (.cWPwrupCfg5 7) := by decide

/-- The table's numbering: the descriptor is the low 16 bits, the operand bits above the row's 16 are 0. -/
theorem test_decodeTableWord :
    decodeTableWord 16 0x1E00 = some (.sWTxd .b4 0) ∧ decodeTableWord 16 0x3804 = none ∧
    decodeTableWord 48 0x00A11E00 = some (.sWTxd .b4 0xA1) := by decide

/-- A table word runs as the first operation after reset. -/
theorem test_withFetchWord :
    nextOf (step (State.reset.withFetchWord 16 0x1E00)) (fun t => t.spi.tx.items = [0]) ∧
    nextOf (step (State.reset.withFetchWord 16 0x9980)) (fun t => t.replies = [.value 4 0]) := by decide

/-! ## Well-formedness: each check refuses its ill-formed term -/

theorem smoke_sub_word_refused_in_refuse_mode :
    (Instr.sRGcr .b2).wf { testConfig .base with subwordMode := .refuse } = false ∧
    (Instr.sRGcr .b4).wf { testConfig .base with subwordMode := .refuse } = true := by decide

theorem smoke_operand_wider_than_the_access :
    (Instr.sWGcr .b1 0x100).wf (testConfig .base) = false ∧ (Instr.sWGcr .b1 0xFF).wf (testConfig .base) = true := by
  decide

theorem smoke_unknown_spi_offset_names_a_register :
    (Instr.sRUnknown .b4 0x004).wf (testConfig .base) = false ∧
    (Instr.sRUnknown .b4 0x000).wf (testConfig .base) = true := by decide

theorem smoke_unknown_spi_offset_misaligned :
    (Instr.sWUnknown .b2 0x005 0).wf (testConfig .base) = false ∧
    (Instr.sWUnknown .b1 0x005 0).wf (testConfig .base) = true := by decide

theorem smoke_unknown_cpucfg_offset_names_a_register :
    (Instr.cRUnknown 0x144).wf (testConfig .r40) = false ∧ (Instr.cRUnknown 0x144).wf (testConfig .base) = true ∧
    (Instr.cWUnknown 0x184 0).wf (testConfig .base) = false := by decide

theorem smoke_unknown_cpucfg_offset_misaligned :
    (Instr.cRUnknown 0x002).wf (testConfig .base) = false := by decide

theorem smoke_r40_operation_in_the_base_variant :
    (Instr.cWPsw0 0).wf (testConfig .base) = false ∧ (Instr.cWPsw0 0).wf (testConfig .r40) = true := by decide

theorem smoke_config :
    (testConfig .r40).wf = true ∧ { testConfig .r40 with r40Layout := R40Reg.all.tail }.wf = false ∧
    { testConfig .r40 with r40Layout := .pswDelay :: R40Reg.all.tail }.wf = false ∧
    { testConfig .base with tcrXchBit := 7 }.wf = false := by decide

/-! ## Vectors of spec/95_test_vectors.md, each one step -/

/-- Q1 to Q5. -/
theorem test_queue_vectors :
    (WordQueue.push ⟨2, []⟩ 0xA).items = [0xA] ∧ (WordQueue.push ⟨2, [0xA, 0xB]⟩ 0xC).items = [0xA, 0xB] ∧
    WordQueue.pop ⟨2, [0xA, 0xB]⟩ = (0xA, ⟨2, [0xB]⟩) ∧ WordQueue.pop ⟨2, []⟩ = (0, ⟨2, []⟩) ∧
    WordQueue.reset ⟨2, [0xA, 0xB]⟩ = ⟨2, []⟩ := by decide

/-- T11, T12: the power-on constants. -/
theorem test_reset_constants :
    (State.reset.spi.gcr, State.reset.spi.tcr, State.reset.spi.isr, State.reset.spi.fcr, State.reset.spi.ccr,
      State.reset.spi.dmactl) = (0x80, 0x87, 0x32, 0x00400001, 0x02, 0xA5) ∧
    (State.reset.cpucfg.genCtrl, State.reset.cpucfg.superStandby, State.reset.cpucfg.entryAddr) = (0x20, 0, 0) := by
  decide

/-- S1 and S18: a write replaces the whole register. -/
theorem test_gcr_write :
    nextOf (access (spiState [] []) 0x1C04 0x80000083) (fun t => t.spi.gcr = 0x80000083 ∧ t.history = []) ∧
    nextOf (access (spiState [] []) 0x0404 0x01) (fun t => t.spi.gcr = 0x00000001) := by decide

/-- S2: ISR is plain storage. -/
theorem test_isr_write :
    nextOf (access (spiState [] []) 0x1C14 0) (fun t => t.spi.isr = 0) := by decide

/-- S5 and S7: FSR packs the counts, and a 2-byte read gives its low half. -/
theorem test_fsr_read :
    nextOf (access (spiState [1, 2, 3] []) 0x181C 0) (fun t => t.replies = [.value 4 0x00030000]) ∧
    nextOf (access (spiState [1, 2, 3, 4, 5] [6, 7]) 0x081C 0) (fun t => t.replies = [.value 2 0x0002]) := by decide

/-- S8: an FSR write only logs. -/
theorem test_fsr_write :
    nextOf (access (spiState [1] [2]) 0x1C1C 0xFFFFFFFF) (fun t =>
      t.spi = (spiState [1] [2]).spi ∧ t.history = [.diag .spi .roWrite 0x01C (.value 0xFFFFFFFF)]) := by decide

/-- S9: a push; S20: a 1-byte push. -/
theorem test_txd_write :
    nextOf (access (spiState [] []) 0x1E00 0xA1) (fun t => t.spi.tx.items = [0xA1] ∧ t.history = []) ∧
    nextOf (access (spiState [] []) 0x0600 0xFFA1) (fun t => t.spi.tx.items = [0xA1]) := by decide

/-- S11: a TXD read only logs. -/
theorem test_txd_read :
    nextOf (access (spiState [1, 2] []) 0x1A00 0) (fun t =>
      t.spi.tx.items = [1, 2] ∧ t.replies = [.value 4 0] ∧ t.history = [.diag .spi .woRead 0x200 .none]) := by decide

/-- S12 to S14: pops, of an empty queue and of one byte among them. -/
theorem test_rxd_read :
    nextOf (access (spiState [] [0xDEADBEEF]) 0x1B00 0) (fun t =>
      t.spi.rx.items = [] ∧ t.replies = [.value 4 0xDEADBEEF]) ∧
    nextOf (access (spiState [] []) 0x1B00 0) (fun t => t.replies = [.value 4 0] ∧ t.history = []) ∧
    nextOf (access (spiState [] [0x11223344, 0x55]) 0x0300 0) (fun t =>
      t.spi.rx.items = [0x55] ∧ t.replies = [.value 1 0x44]) := by decide

/-- F1 and F2: each reset bit empties its own queue. -/
theorem test_fcr_write :
    nextOf (access (spiState [1, 2, 3] [7, 8]) 0x1C18 0x80400001) (fun t =>
      t.spi.tx.items = [] ∧ t.spi.rx.items = [7, 8] ∧ t.spi.fcr = 0x00400001) ∧
    nextOf (access (spiState [1, 2, 3] [7, 8]) 0x1C18 0x00408001) (fun t =>
      t.spi.tx.items = [1, 2, 3] ∧ t.spi.rx.items = [] ∧ t.spi.fcr = 0x00400001) := by decide

/-- B1 (no start), B2 (one word) and B4 (more words than declared: all are exchanged, after a warning). -/
theorem test_burst_words :
    nextOf (access (burstState 1 [1] []) 0x1C08 0x00000087) (fun t => t.spi.tx.items = [1] ∧ t.history = []) ∧
    nextOf (access (burstState 1 [0xA1] [0x5A]) 0x1C08 0x80000087) (fun t =>
      t.spi.tx.items = [] ∧ t.spi.rx.items = [0x5A] ∧ t.spi.tcr = 0x87 ∧ t.history = [.exchange 0xA1 0x5A]) ∧
    nextOf (access (burstState 1 [0xA, 0xB] [0xA, 0xB]) 0x1C08 0x80000087) (fun t =>
      t.spi.rx.items = [0xA, 0xB] ∧
      t.history = [.diag .spi .burstMismatch 0x008 (.lengths 1 2), .exchange 0xA 0xA, .exchange 0xB 0xB]) := by decide

/-- B5 (nothing queued), B6 (bits 31:24 of MBC ignored, length 0) and B9 (TCR stored all the same). -/
theorem test_burst_lengths :
    nextOf (access (burstState 3 [] []) 0x1C08 0x80000087) (fun t =>
      t.spi.rx.items = [] ∧ t.history = [.diag .spi .burstMismatch 0x008 (.lengths 3 0)]) ∧
    nextOf (access (burstState 0x01000000 [0xA] []) 0x1C08 0xFFFFFFFF) (fun t =>
      t.spi.tx.items = [0xA] ∧ t.spi.tcr = 0x7FFFFFFF ∧ t.history = [.diag .spi .burstZero 0x008 (.length 0)]) := by
  decide

/-- B8, at depth 64 with 63 words queued: the second answer is dropped. -/
theorem test_burst_full :
    nextOf (access { burstState 2 [0xA, 0xB] [1, 2] with
        spi := { (burstState 2 [0xA, 0xB] [1, 2]).spi with rx := ⟨64, List.replicate 63 9⟩ } } 0x1C08 0x80000087)
      (fun t => t.spi.rx.items = List.replicate 63 9 ++ [1] ∧ t.history.length = 2) := by decide

/-- C1 (write of 0), C3 (a 32-bit core), C4 (an unknown core) and C5 (a failure). -/
theorem test_reset_core :
    nextOf (access (cpucfgState .base [] [] []) 0x9C40 0) (fun t => t.history = []) ∧
    nextOf (access (cpucfgState .base [some ⟨false⟩] [.ok] []) 0x9C40 0xFFFFFFFF) (fun t =>
      t.history = [.lookup 0 true, .powerOn 0 0x8000 3 false .ok]) ∧
    nextOf (access (cpucfgState .base [none] [] []) 0x9CC0 1) (fun t => t.history = [.lookup 2 false]) ∧
    nextOf (access (cpucfgState .base [some ⟨true⟩] [.err] []) 0x9D00 1) (fun t =>
      t.history = [.lookup 3 true, .powerOn 3 0x8000 3 true .err, .diag .cpucfg .powerOnFail 0x100 (.core 3 .err)]) := by
  decide

/-- C6 to C8: the constants. -/
theorem test_constant_reads :
    nextOf (access (cpucfgState .base [] [] []) 0x9840 0) (fun t => t.replies = [.value 4 3]) ∧
    nextOf (access (cpucfgState .base [] [] []) 0x9844 0) (fun t => t.replies = [.value 4 0]) ∧
    nextOf (access (cpucfgState .base [] [] []) 0x9848 0) (fun t => t.replies = [.value 4 1]) := by decide

/-- C12 to C15: unimplemented and unknown offsets. -/
theorem test_cpucfg_diagnostics :
    nextOf (access (cpucfgState .base [] [] []) 0x9A84 0) (fun t => t.history = [.diag .cpucfg .unimp 0x284 .none]) ∧
    nextOf (access (cpucfgState .base [] [] []) 0x9E80 1) (fun t => t.history = [.diag .cpucfg .unimp 0x280 (.value 1)]) ∧
    nextOf (access (cpucfgState .base [] [] []) 0x9D44 0xFF) (fun t =>
      t.history = [.diag .cpucfg .unknownOffset 0x144 (.value 0xFF)]) := by decide

/-- K1 (power off), K2 (a failure), K3 (power on: nothing) and K5 (another value: nothing). -/
theorem test_power_switch :
    nextOf (access (cpucfgState .r40 [] [] [.ok]) 0x9D44 0xFF) (fun t =>
      t.cpucfg.r40.psw = #v[0xFF, 0, 0, 0] ∧ t.history = [.powerOff 0 .ok]) ∧
    nextOf (access (cpucfgState .r40 [] [] [.err]) 0x9D50 0xFF) (fun t =>
      t.history = [.powerOff 3 .err, .diag .cpucfg .powerOffFail 0x150 (.core 3 .err)]) ∧
    nextOf (access (cpucfgState .r40 [] [] []) 0x9D4C 0) (fun t => t.history = []) ∧
    nextOf (access (cpucfgState .r40 [] [] []) 0x9D48 0x1FF) (fun t =>
      t.cpucfg.r40.psw = #v[0, 0x1FF, 0, 0] ∧ t.history = []) := by decide

/-- K11 and K7: r40 storage. -/
theorem test_r40_storage :
    nextOf (access (cpucfgState .r40 [] [] []) 0x9D74 5) (fun t => t.cpucfg.r40.pwrupCfg = #v[0, 0, 0, 0, 0, 5]) ∧
    nextOf (access (cpucfgState .r40 [] [] []) 0x9D40 0xF) (fun t => t.cpucfg.r40.pwroffGating = 0xF) := by decide

/-- Z1 and Z4: the reset events. -/
theorem test_reset_events :
    nextOf (step { spiState [1, 2] [3] with pending := [.reset .spi] }) (fun t =>
      t.spi = (State.launch (testConfig .base)).spi ∧ t.history = []) ∧
    nextOf (step { cpucfgState .r40 [] [] [] with pending := [.reset .cpucfg] }) (fun t =>
      t.cpucfg = (State.launch (testConfig .r40)).cpucfg ∧ t.history = []) := by decide

/-- R60, R61, R64, R75: accesses by bus address. -/
theorem test_bus :
    nextOf (step { spiState [] [] with pending := [.busWrite 0x1200 [0xEF, 0xBE, 0xAD, 0xDE]] }) (fun t =>
      t.spi.tx.items = [0xDEADBEEF]) ∧
    nextOf (step { spiState [] [] with pending := [.busRead 0x2184 4] }) (fun t => t.replies = [.value 4 0x20]) ∧
    nextOf (step { spiState [] [] with pending := [.fetch 0x1000] }) (fun t => t.replies = [.refused .fetch]) ∧
    (Reply.value 4 0xDEADBEEF).bytes = [0xEF, 0xBE, 0xAD, 0xDE] := by decide

/-- R94: `BURST 0x87, 0xA1` is a push, the length and the start. -/
theorem test_pseudo_burst :
    burstMoves 0x87 [0xA1]
      = [.access ⟨0x1E00, 0xA1⟩, .access ⟨0x1C30, 1⟩, .access ⟨0x1C08, 0x80000087⟩] := by decide

/-! ## Witnesses: values that meet the hypotheses of the statements, each clause at a boundary -/

theorem witness_EncodeThenDecodeGivesOperationBack :
    (testConfig .r40).wf = true ∧ (Instr.sWTxd .b2 0xFFFF).wf (testConfig .r40) = true ∧
    (Instr.cWUnknown 0x3FC 1).wf (testConfig .r40) = true ∧ (Instr.cRPwrupCfg5).wf (testConfig .r40) = true := by decide

theorem witness_DecodeDropsNoBit :
    decode (testConfig .base) ⟨0x0404, 0xFFFFFF01⟩ = .ok (.sWGcr .b1 0x01) ∧ (0x0404#16).getLsbD 10 = true ∧
    decode (testConfig .base) ⟨0x1804, 0⟩ = .ok (.sRGcr .b4) := by decide

theorem witness_DecodeRefusesExactlyTheIllegalDescriptors :
    refusal .exactOffset 0x6000 = some .reserved ∧ refusal .exactOffset 0x1000 = some .badSize ∧
    refusal .refuse 0x0000 = some .badSize ∧ refusal .refuse 0x1801 = some .misaligned ∧
    refusal .exactOffset 0x0801 = some .misaligned ∧ refusal .exactOffset 0x9002 = some .badSize ∧
    refusal .exactOffset 0x9BFE = some .misaligned := by decide

theorem witness_WorkedDescriptorsDecode : (testConfig .base).subwordMode = .exactOffset := by decide

theorem witness_SpiDescriptorsDecodeByTheOperationMap :
    (testConfig .base).subwordMode = .exactOffset ∧ 0x3FF < 0x400 ∧ 0x3FF % SpiSize.b1.bytes = 0 ∧
    0x3FF ∉ [0x004, 0x008, 0x010, 0x014, 0x018, 0x01C, 0x020, 0x024, 0x030, 0x034, 0x038, 0x088, 0x200, 0x300] ∧
    refusal .exactOffset 0x03FF = none := by decide

theorem witness_CpucfgDescriptorsDecodeByTheOperationMap :
    (testConfig .r40).wf = true ∧ (testConfig .r40).variant = .r40 ∧ (testConfig .r40).r40Layout = R40Reg.all ∧
    (testConfig .base).wf = true ∧
    (∀ off ∈ [0x13C, 0x178, 0x3FC, 0x000], off < 0x400 ∧ off % 4 = 0 ∧ ¬(0x140 ≤ off ∧ off ≤ 0x174) ∧
      off ∉ [0x040, 0x080, 0x0C0, 0x100, 0x044, 0x084, 0x0C4, 0x104, 0x048, 0x088, 0x0C8, 0x108, 0x184, 0x1A0, 0x1A4,
             0x1E4, 0x280, 0x284, 0x288]) := by decide

theorem witness_R40LayoutIsABijectionThatDecodeFollows :
    layoutOk R40Reg.all = true ∧ layoutOk R40Reg.all.reverse = true ∧ (testConfig .r40).wf = true ∧
    (testConfig .r40).variant = .r40 := by decide

theorem witness_BaseVariantR40SlotsAreUnknownOffsets :
    (testConfig .base).variant = .base ∧ (0x140#10).toNat % 4 = 0 ∧ (0x174#10).toNat % 4 = 0 ∧
    nextOf (access (cpucfgState .base [] [] []) (cpucfgRead 0x140).desc 0) (fun t => t.replies = [.value 4 0]) ∧
    nextOf (access (cpucfgState .base [] [] []) (cpucfgWrite 0x174 0xFF).desc 0xFF) (fun t => t.history.length = 1) := by
  decide

theorem witness_StepRunsTheDecodedOperation :
    decode (spiState [] []).cfg ⟨0x1C04, 5⟩ = .ok (.sWGcr .b4 5) ∧
    ({ spiState [] [] with pending := [.access ⟨0x1C04, 5⟩] }).pending = .access ⟨0x1C04, 5⟩ :: [] := by decide

theorem witness_RefusedAccessChangesNothing :
    decode (spiState [] []).cfg ⟨0x3804, 0⟩ = .error .reserved ∧
    inRange (spiState [] []).cfg.spiBase 0x1000 ∧ ¬ inRange (spiState [] []).cfg.cpucfgBase 0x1000 ∧
    inRange (spiState [] []).cfg.cpucfgBase 0x23FF ∧ ¬ inRange (spiState [] []).cfg.spiBase 0x23FF := by decide

theorem witness_BusAccessIsTheDescriptorAccess :
    inRange (spiState [] []).cfg.spiBase 0x13FF ∧ ¬ inRange (spiState [] []).cfg.cpucfgBase 0x13FF ∧
    inRange (spiState [] []).cfg.cpucfgBase 0x2000 ∧ ¬ inRange (spiState [] []).cfg.spiBase 0x2000 ∧
    nextOf (step { spiState [] [] with pending := [.busRead 0x13FF 1] }) (fun t => t.history.length = 1) ∧
    nextOf (step { spiState [] [] with pending := [.busRead 0x13FC 0] }) (fun t => t.replies = [.refused .badSize]) ∧
    nextOf (step { spiState [] [] with pending := [.busWrite 0x1200 [1, 2, 3, 4, 5]] }) (fun t =>
      t.replies = [.refused .badSize]) := by decide

theorem witness_BusAccessOutsideTheWindowsStops :
    (¬ inRange (spiState [] []).cfg.spiBase 0x1400 ∧ ¬ inRange (spiState [] []).cfg.cpucfgBase 0x1400) ∧
    (¬ inRange (spiState [] []).cfg.spiBase 0xFFF ∧ ¬ inRange (spiState [] []).cfg.cpucfgBase 0xFFF) ∧
    (inRange { testConfig .base with cpucfgBase := 0x13FF }.spiBase 0x13FF ∧
      inRange { testConfig .base with cpucfgBase := 0x13FF }.cpucfgBase 0x13FF) := by decide

theorem witness_IdleMachineWaits : State.reset.pending = [] := by decide

theorem witness_QueuePrimitives :
    ([1] : List Word).length < (⟨2, [1]⟩ : WordQueue).cap ∧ ¬ ([1, 2] : List Word).length < (⟨2, [1, 2]⟩ : WordQueue).cap ∧
    (⟨2, []⟩ : WordQueue).items = [] ∧ (⟨2, [1]⟩ : WordQueue).items = 1 :: [] := by decide

theorem witness_QueueNeverExceedsItsCapacity :
    (⟨2, [1, 2]⟩ : WordQueue).items.length ≤ (⟨2, [1, 2]⟩ : WordQueue).cap := by decide

theorem witness_QueueIsFirstInFirstOut :
    (⟨3, [1]⟩ : WordQueue).items.length + ([2, 3] : List Word).length ≤ (⟨3, [1]⟩ : WordQueue).cap := by decide

theorem witness_SpiStorageRoundTrip :
    storedBack (spiState [1] []).cfg 0xFFFFFFFF .tcr = some 0x7FFFFFFF ∧
    storedBack (spiState [1] []).cfg 0xFFFFFFFF .fcr = some 0x7FFF7FFF ∧
    storedBack (spiState [1] []).cfg 0xFFFFFFFF .gcr = some 0xFFFFFFFF ∧
    ({ spiState [1] [] with pending :=
      [.access (spiWrite .b4 SpiReg.tcr.offset 0xFFFFFFFF), .access (spiRead .b4 SpiReg.tcr.offset)] }).pending =
      .access (spiWrite .b4 SpiReg.tcr.offset 0xFFFFFFFF) :: .access (spiRead .b4 SpiReg.tcr.offset) :: [] := by decide

/-- Both queues full: the boundary of `SpiBlock.Good`. -/
theorem witness_FifoStatusPacksTheCounts :
    (spiState (List.replicate 64 1) (List.replicate 64 2)).spi.Good (testConfig .base) :=
  ⟨by decide, by decide, by decide, by decide, by decide, by decide, by decide⟩

theorem witness_ReceiveDataReadPops :
    (spiState [] []).spi.rx.items = [] ∧ (spiState [] [7, 8]).spi.rx.items = 7 :: [8] := by decide

theorem witness_SpiUnknownOffsetsOnlyLog :
    (testConfig .base).subwordMode = .exactOffset ∧ (0x3FF#10).toNat % SpiSize.b1.bytes = 0 ∧
    (0x00B#10).toNat % SpiSize.b1.bytes = 0 ∧ (0x000#10).toNat % SpiSize.b4.bytes = 0 ∧
    (0x00B#10).toNat ∉ [0x004, 0x008, 0x010, 0x014, 0x018, 0x01C, 0x020, 0x024, 0x030, 0x034, 0x038, 0x088, 0x200, 0x300] := by
  decide

theorem witness_OnlyTheseSpiOperationsLog :
    blockOf (.sWTcr .b4 0x80000000) = .spi ∧ ((sliceLow .b4 0x80000000).getLsbD (testConfig .base).tcrXchBit = true) ∧
    (burstState 1 [] []).spi.mbc.toNat % 2 ^ 24 ≠ (burstState 1 [] []).spi.tx.items.length ∧
    blockOf (.sRGcr .b1) = .spi := by decide

theorem witness_TransferControlWriteWithoutStartStores :
    (sliceLow .b4 0x7FFFFFFF).getLsbD (spiState [] []).cfg.tcrXchBit = false := by decide

theorem witness_BurstOfLengthZeroAborts :
    (sliceLow .b4 0xFFFFFFFF).getLsbD (burstState 0x01000000 [1] []).cfg.tcrXchBit = true ∧
    (burstState 0x01000000 [1] []).spi.mbc.toNat % 2 ^ 24 = 0 := by decide

/-- RX one word short of full, so that an answer is dropped; the declared length 2 is the number of queued words. -/
theorem witness_BurstSummary :
    (burstInto 2 [1, 2] 63).spi.Good (burstInto 2 [1, 2] 63).cfg ∧
    (burstInto 0 [1, 2] 64).spi.Good (burstInto 0 [1, 2] 64).cfg ∧
    (sliceLow .b4 0x80000000).getLsbD (burstInto 2 [1, 2] 63).cfg.tcrXchBit = true ∧
    (burstInto 2 [1, 2] 63).spi.mbc.toNat % 2 ^ 24 ≠ 0 ∧ (burstInto 0 [1, 2] 64).spi.mbc.toNat % 2 ^ 24 = 0 :=
  ⟨⟨by decide, by decide, by decide, by decide, by decide, by decide, by decide⟩,
   ⟨by decide, by decide, by decide, by decide, by decide, by decide, by decide⟩, by decide, by decide, by decide⟩

theorem witness_BurstOfExactlyTheQueuedWords :
    (burstInto 2 [1, 2] 0).spi.Good (burstInto 2 [1, 2] 0).cfg ∧
    (sliceLow .b4 0x80000000).getLsbD (burstInto 2 [1, 2] 0).cfg.tcrXchBit = true ∧
    (burstInto 2 [1, 2] 0).spi.tx.items.length = 2 ∧ (burstInto 2 [1, 2] 0).spi.mbc.toNat % 2 ^ 24 = 2 ∧
    (burstInto 2 [1, 2] 0).spi.rx.items = [] :=
  ⟨⟨by decide, by decide, by decide, by decide, by decide, by decide, by decide⟩,
   by decide, by decide, by decide, by decide⟩

theorem witness_OnlyAWholeTransferControlWriteStartsABurst :
    (burstState 1 [0xA1] [0x5A]).cfg.tcrXchBit = 31 ∧
    nextOf (access (burstState 1 [0xA1] [0x5A]) 0x1C08 0x80000000) (fun t =>
      .exchange 0xA1 0x5A ∈ t.history.drop (burstState 1 [0xA1] [0x5A]).history.length) ∧
    nextOf (access (burstState 2 [0xA1] [0x5A]) 0x1C08 0x80000000) (fun t =>
      .diag .spi .burstMismatch 0x008 (.lengths 2 1) ∈ t.history.drop 0) ∧
    nextOf (access (burstState 0 [0xA1] [0x5A]) 0x1C08 0x80000000) (fun t =>
      .diag .spi .burstZero 0x008 (.length 0) ∈ t.history.drop 0) := by decide

/-- Two states that differ in GCR, in MBC[31:24], in the width of the write and in the rest of the written value. -/
theorem witness_BurstReadsOnlyLengthQueuesAndStartBit :
    (burstState 1 [1] [2]).spi.mbc.toNat % 2 ^ 24 = (otherBurstState 1 [1] [2]).spi.mbc.toNat % 2 ^ 24 ∧
    (burstState 1 [1] [2]).spi.tx = (otherBurstState 1 [1] [2]).spi.tx ∧
    (burstState 1 [1] [2]).spi.rx = (otherBurstState 1 [1] [2]).spi.rx ∧
    (sliceLow .b4 0x80000000).getLsbD (burstState 1 [1] [2]).cfg.tcrXchBit
      = (sliceLow .b4 0xFFFFFFFF).getLsbD (otherBurstState 1 [1] [2]).cfg.tcrXchBit ∧
    (burstState 1 [1] [2]).history = (otherBurstState 1 [1] [2]).history ∧
    (burstState 1 [1] [2]).script = (otherBurstState 1 [1] [2]).script ∧
    (burstState 1 [1] [2]).spi ≠ (otherBurstState 1 [1] [2]).spi := by decide

/-- A core that is found and one that is not, with and without a failure: `test_reset_core` runs the four. -/
theorem witness_ResetControlWriteStartsTheCore :
    (0xFFFFFFFF : Word) ≠ 0 ∧ (0 : Word) = 0 ∧
    Drawn (cpucfgState .base [some ⟨true⟩] [.err] []).script.lookups (some ⟨true⟩) [] ∧
    Drawn (cpucfgState .base [] [] []).script.lookups none [] :=
  ⟨by decide, rfl, .inl rfl, .inr ⟨rfl, rfl⟩⟩

theorem witness_R40RegistersAreStorage :
    (cpucfgState .r40 [] [] []).cfg.variant = .r40 ∧ (∀ n, R40Reg.pwrupCfg 5 ≠ .psw n) := by decide

theorem witness_PowerSwitchWrite :
    (cpucfgState .r40 [] [] [.err]).cfg.variant = .r40 ∧ (0x1FF : Word) ≠ 0x000000FF ∧ (0 : Word) ≠ 0x000000FF ∧
    Drawn (cpucfgState .r40 [] [] [.err]).script.powerOffs PowerResult.err [] :=
  ⟨by decide, by decide, by decide, .inl rfl⟩

theorem witness_PowerSwitchOffThenOnRequestsOnce :
    (testConfig .r40).wf = true ∧ (testConfig .r40).variant = .r40 ∧
    ({ cpucfgState .r40 [] [] [.ok] with pending :=
      [.access (cpucfgWrite (r40Offset (testConfig .r40).r40Layout (.psw 3)) 0xFF),
       .access (cpucfgWrite (r40Offset (testConfig .r40).r40Layout (.psw 3)) 0)] }).pending =
      .access ⟨0x9D50, 0xFF⟩ :: .access ⟨0x9D50, 0⟩ :: [] := by decide

theorem witness_ResetOfSpi :
    ({ spiState [1] [2] with pending := [.reset .spi] }).pending = .reset .spi :: [] := by decide

theorem witness_ResetOfCpucfg :
    ({ cpucfgState .r40 [] [] [] with pending := [.reset .cpucfg] }).pending = .reset .cpucfg :: [] ∧
    (cpucfgState .r40 [] [] []).cfg.variant = .r40 ∧ (cpucfgState .base [] [] []).cfg.variant = .base := by decide

theorem witness_ResetIsIdempotentAndForgets :
    (spiState [1] [2]).cfg = (spiState [3, 4] []).cfg ∧ (spiState [1] [2]).spi.Good (spiState [1] [2]).cfg ∧
    (spiState [3, 4] []).spi.Good (spiState [3, 4] []).cfg ∧ (cpucfgState .r40 [] [] []).cfg.variant = .r40 :=
  ⟨by decide, ⟨by decide, by decide, by decide, by decide, by decide, by decide, by decide⟩,
   ⟨by decide, by decide, by decide, by decide, by decide, by decide, by decide⟩, by decide⟩

theorem witness_FieldsReadTheirResetValues :
    spiWord ((spiState [1] [2]).resetEvent .spi).spi .dmactl = some 0xA5 ∧
    spiWord ((spiState [1] [2]).resetEvent .spi).spi .fsr = some 0 := by decide

theorem witness_InvariantHoldsAtLaunch : (testConfig .base).wf = true ∧ (testConfig .r40).wf = true := by decide

/-- The hypotheses of `StepKeepsInvariant` and of `StepKeepsConfigurationAndHistory`. -/
theorem witness_StepKeepsInvariant :
    (burstInto 2 [1, 2] 63).Inv ∧
    nextOf (access (burstInto 2 [1, 2] 63) 0x1C08 0x80000000) (fun t => t.spi.tx.items = []) :=
  ⟨⟨by decide, ⟨by decide, by decide, by decide, by decide, by decide, by decide, by decide⟩⟩, by decide⟩

theorem witness_SelfClearingBitsReadZeroWhereverReachable :
    (testConfig .base).wf = true ∧ ∃ t, Leads { State.launch (testConfig .base) with
      pending := [.access ⟨0x1C08, 0xFFFFFFFF⟩], script := ⟨[], [], [], []⟩ } t ∧ t.spi.tcr = 0x7FFFFFFF :=
  ⟨by decide, _, .tail .refl rfl, by decide⟩

theorem witness_BlocksShareNoStorage :
    blockOf (.sWTcr .b4 0x80000000) = .spi ∧ blockOf (.cWRstCtrl0 1) = .cpucfg := by decide

theorem witness_BaseVariantHasNoR40Registers : (cpucfgState .base [] [] []).cfg.variant = .base := by decide

theorem witness_AtMostOneDiagnosticAndWarningsFirst :
    nextOf (access (burstState 1 [0xA, 0xB] [0xA, 0xB]) 0x1C08 0x80000087) (fun t =>
      t.history = [] ++ .diag .spi .burstMismatch 0x008 (.lengths 1 2) :: [.exchange 0xA 0xA, .exchange 0xB 0xB] ∧
      isDiag (.diag .spi .burstMismatch 0x008 (.lengths 1 2)) = true) := by decide

theorem witness_NoOperationButItsOwnWriteChangesARegister :
    nextOf (exec (.sWDmactl .b4 1) (spiState [] [])) (fun t => t.spi.dmactl ≠ (spiState [] []).spi.dmactl) ∧
    nextOf (exec (.cWPwrupCfg5 1) (cpucfgState .r40 [] [] [])) (fun t =>
      readReg40 t.cpucfg.r40 (.pwrupCfg 5) ≠ readReg40 (cpucfgState .r40 [] [] []).cpucfg.r40 (.pwrupCfg 5)) := by decide

theorem witness_NoOtherOperationChangesAQueue :
    nextOf (exec (.sWTxd .b4 1) (spiState [] [])) (fun t =>
      t.spi.tx ≠ (spiState [] []).spi.tx ∧ (spiState [] []).spi.tx.items.length < t.spi.tx.items.length) ∧
    nextOf (exec (.sWTcr .b4 0x80000000) (burstState 1 [1] [2])) (fun t =>
      t.spi.rx ≠ (burstState 1 [1] [2]).spi.rx ∧
      (burstState 1 [1] [2]).spi.rx.items.length < t.spi.rx.items.length) := by decide

theorem witness_ReadsHaveNoOtherSideEffects :
    dirOf (.sRRxd .b1) = .read ∧ dirOf (.sRTxd .b4) = .read ∧ (∀ sz, Instr.sRTxd .b4 ≠ .sRRxd sz) ∧
    nextOf (exec (.sRTxd .b4) (spiState [] [])) (fun t => t.history ≠ []) := by
  refine ⟨by decide, by decide, nofun, by decide⟩

end Sys2Proof.Tests
end

section
/-! SUPPORT. What a step does with the next host interaction (spec/00_scope.md R13; spec/20_memory.md R70, R72). -/

namespace Sys2Proof.Machine

variable {s : State}

/-- The interaction at the front of the host's list is served in the state that no longer holds it (R72). -/
theorem State.serveNext_of_pending_cons {m : HostMove} {rest : List HostMove} (hp : s.pending = m :: rest) :
    s.serveNext = (s.setPending rest).serve m := by
  rw [State.serveNext, hp]

/-- An access that decodes is accepted as its operation, in the same state (R87). -/
theorem State.serve_access_of_decode_ok {a : Access} {i : Instr} (hd : decode s.cfg a = .ok i) :
    s.serve (.access a) = .run i s := by
  rw [State.serve, State.serveAccess, hd]

/-- An accepted operation is the whole of its step (R13, R70). -/
theorem step_of_serveNext_run {i : Instr} {t : State} (h : s.serveNext = .run i t) : step s = exec i t := by
  rw [step, h]

/-- Settles O9: the next interaction leaves the list, is accepted as the operation it decodes to, and that operation is
the step. Taking it off the list keeps the configuration, so decode answers the same. -/
theorem stepRunsTheDecodedOperation : Obligations.StepRunsTheDecodedOperation := by
  intro s a i rest hp hd
  have hd' : decode (s.setPending rest).cfg a = .ok i := by rwa [State.setPending_cfg]
  have hrun : s.serveNext = .run i (s.setPending rest) :=
    (State.serveNext_of_pending_cons hp).trans (State.serve_access_of_decode_ok hd')
  exact step_of_serveNext_run hrun

end Sys2Proof.Machine
end

section
/-! SUPPORT. The word loop and the requests for cores: what they leave unchanged, and that they do the same whatever
storage of block C they do not read. -/

namespace Sys2Proof.Machine

/-- A queue that a FIFO-control write empties or leaves keeps its capacity (R102, R130). -/
theorem WordQueue.ite_reset_cap (q : WordQueue) (c : Prop) [Decidable c] : (if c then q.reset else q).cap = q.cap := by
  split <;> rfl

/-- A queue that a FIFO-control write empties or leaves gets no longer (R102, R130). -/
theorem WordQueue.ite_reset_length_le (q : WordQueue) (c : Prop) [Decidable c] :
    (if c then q.reset else q).items.length ≤ q.items.length := by
  split
  · exact Nat.zero_le _
  · exact Nat.le_refl _

variable (s : State)

/-- A burst whose declared length is the TX count is the word loop (R163, R164). -/
theorem State.burst_of_eq (hz : declaredLength s.spi ≠ 0) (hc : declaredLength s.spi = s.spi.tx.count) :
    s.burst = s.burstLoop (declaredLength s.spi) := by
  rw [State.burst]
  exact (if_neg hz).trans (if_neg (not_not.mpr hc))

/-- A burst of another nonzero declared length logs one warning before the word loop (R163). -/
theorem State.burst_of_ne (hz : declaredLength s.spi ≠ 0) (hc : declaredLength s.spi ≠ s.spi.tx.count) :
    s.burst = (s.log .spi .burstMismatch SpiReg.tcr.offset
      (.lengths (declaredLength s.spi) s.spi.tx.count)).burstLoop s.spi.tx.count := by
  rw [State.burst]
  exact (if_neg hz).trans (if_pos hc)

/-- What every turn of the word loop keeps of block S, a burst keeps: the warnings of R162 and R163 change no storage. -/
theorem State.burst_induction {P : SpiBlock → Prop} (hword : ∀ u : State, P u.spi → P u.burstWord.spi)
    (h : P s.spi) : P s.burst.spi := by
  have hloop : ∀ (n : Nat) (u : State), P u.spi → P (u.burstLoop n).spi := by
    intro n
    induction n with
    | zero => exact fun _ hu => hu
    | succ n ih => exact fun u hu => ih u.burstWord (hword u hu)
  by_cases hz : declaredLength s.spi = 0
  · rw [s.burst_zero hz]
    exact h
  · by_cases hc : declaredLength s.spi = s.spi.tx.count
    · rw [s.burst_of_eq hz hc]
      exact hloop _ _ h
    · rw [s.burst_of_ne hz hc]
      exact hloop _ _ h

@[simp] theorem State.burst_cfg : s.burst.cfg = s.cfg := by
  obtain ⟨tx, rx, es, rest, hb⟩ := s.burst_frame
  rw [hb]

@[simp] theorem State.burst_cpucfg : s.burst.cpucfg = s.cpucfg := by
  obtain ⟨tx, rx, es, rest, hb⟩ := s.burst_frame
  rw [hb]

/-- Of block S a burst changes the two queues only. -/
theorem State.burst_spi : ∃ tx rx, s.burst.spi = { s.spi with tx := tx, rx := rx } := by
  obtain ⟨tx, rx, es, rest, hb⟩ := s.burst_frame
  exact ⟨tx, rx, by rw [hb]⟩

/-- A burst never lengthens TX. -/
theorem State.burst_tx_length_le : s.burst.spi.tx.items.length ≤ s.spi.tx.items.length := by
  refine s.burst_induction (P := fun b => b.tx.items.length ≤ s.spi.tx.items.length) ?_ (Nat.le_refl _)
  intro u hu
  obtain ⟨r, rest, -, hw⟩ := u.burstWord_spec
  rw [hw]
  exact Nat.le_trans u.spi.tx.pop_length_le hu

/-- reset_core(n) changes no storage of either block. -/
theorem State.resetCore_storage (n : CoreId) (off : Offset) :
    (s.resetCore n off).cfg = s.cfg ∧ (s.resetCore n off).spi = s.spi ∧ (s.resetCore n off).cpucfg = s.cpucfg := by
  obtain ⟨h, ls, -, ⟨-, he⟩ | ⟨c, r, ps, -, -, he⟩⟩ := s.resetCore_spec n off <;> rw [he] <;> exact ⟨rfl, rfl, rfl⟩

/-- A write of a reset-control register changes no storage of either block (R183). -/
theorem State.writeRstCtrl_storage (n : CoreId) (v : Word) :
    (s.writeRstCtrl n v).cfg = s.cfg ∧ (s.writeRstCtrl n v).spi = s.spi ∧ (s.writeRstCtrl n v).cpucfg = s.cpucfg := by
  by_cases hv : v = 0
  · subst hv
    exact ⟨rfl, rfl, rfl⟩
  · rw [s.writeRstCtrl_of_ne n v hv]
    exact s.resetCore_storage n _

/-- In the r40 variant a write of a power switch stores the value, whatever it requests (R207). -/
theorem State.writePsw_storage_r40 (hv : s.cfg.variant = .r40) (n : CoreId) (v : Word) :
    (s.writePsw n v).cfg = s.cfg ∧ (s.writePsw n v).spi = s.spi ∧
      (s.writePsw n v).cpucfg = { s.cpucfg with r40 := writeReg40 s.cpucfg.r40 (.psw n) v } := by
  by_cases hff : v = 0x000000FF
  · subst hff
    obtain ⟨r, ps, -, he⟩ := s.writePsw_off hv n
    rw [he]
    exact ⟨rfl, rfl, rfl⟩
  · rw [s.writePsw_of_ne hv n v hff]
    exact ⟨rfl, rfl, rfl⟩

end Sys2Proof.Machine
end

section
/-! SUPPORT. What an operation can do to the storage of the two blocks (spec/10_state.md R24, R25, R43, R45), said once:
each operation leaves a block as it is or makes the one change that is its own. -/

namespace Sys2Proof.Machine

/-- Block S after operation `i` in state `s`: as before, or changed by the write of a stored register, by a push of TXD,
by a pop of RXD, or by the burst and the store of a TCR write. -/
inductive SpiChange (s : State) : Instr → SpiBlock → Prop where
  | keep {i : Instr} : SpiChange s i s.spi
  | gcr (sz : SpiSize) (v : Word) : SpiChange s (.sWGcr sz v) { s.spi with gcr := writeValue sz v }
  | tcr (sz : SpiSize) (v : Word) {u : State} (hu : u = s.burst ∨ u = s) :
      SpiChange s (.sWTcr sz v) { u.spi with tcr := clearBit s.cfg.tcrXchBit (writeValue sz v) }
  | ier (sz : SpiSize) (v : Word) : SpiChange s (.sWIer sz v) { s.spi with ier := writeValue sz v }
  | isr (sz : SpiSize) (v : Word) : SpiChange s (.sWIsr sz v) { s.spi with isr := writeValue sz v }
  | fcr (sz : SpiSize) (v : Word) : SpiChange s (.sWFcr sz v) (spiFcrWrite s.cfg s.spi (writeValue sz v))
  | wcr (sz : SpiSize) (v : Word) : SpiChange s (.sWWcr sz v) { s.spi with wcr := writeValue sz v }
  | ccr (sz : SpiSize) (v : Word) : SpiChange s (.sWCcr sz v) { s.spi with ccr := writeValue sz v }
  | mbc (sz : SpiSize) (v : Word) : SpiChange s (.sWMbc sz v) { s.spi with mbc := writeValue sz v }
  | mtc (sz : SpiSize) (v : Word) : SpiChange s (.sWMtc sz v) { s.spi with mtc := writeValue sz v }
  | bcc (sz : SpiSize) (v : Word) : SpiChange s (.sWBcc sz v) { s.spi with bcc := writeValue sz v }
  | dmactl (sz : SpiSize) (v : Word) : SpiChange s (.sWDmactl sz v) { s.spi with dmactl := writeValue sz v }
  | txd (sz : SpiSize) (v : Word) : SpiChange s (.sWTxd sz v) { s.spi with tx := s.spi.tx.push (writeValue sz v) }
  | rxd (sz : SpiSize) : SpiChange s (.sRRxd sz) { s.spi with rx := s.spi.rx.pop.2 }

/-- Block C after operation `i` in state `s`: as before, or with the one register replaced that `i` writes; an r40
register in the r40 variant only. -/
inductive CpucfgChange (s : State) : Instr → CpucfgBlock → Prop where
  | keep {i : Instr} : CpucfgChange s i s.cpucfg
  | genCtrl (v : Word) : CpucfgChange s (.cWGenCtrl v) { s.cpucfg with genCtrl := v }
  | superStandby (v : Word) : CpucfgChange s (.cWSuperStandby v) { s.cpucfg with superStandby := v }
  | entryAddr (v : Word) : CpucfgChange s (.cWEntryAddr v) { s.cpucfg with entryAddr := v }
  | r40 (hv : s.cfg.variant = .r40) (r : R40Reg) (v : Word) :
      CpucfgChange s (r40WriteInstr v r) { s.cpucfg with r40 := writeReg40 s.cpucfg.r40 r v }

/-- `t` is a state operation `i` may lead to from `s`, as far as configuration and storage go. -/
structure StorageStep (s : State) (i : Instr) (t : State) : Prop where
  cfg : t.cfg = s.cfg
  spi : SpiChange s i t.spi
  cpucfg : CpucfgChange s i t.cpucfg

variable {s t : State} {i : Instr}

/-- An operation that leaves both blocks as they are. -/
theorem StorageStep.of_eq (h : t.cfg = s.cfg ∧ t.spi = s.spi ∧ t.cpucfg = s.cpucfg) : StorageStep s i t := by
  obtain ⟨hcfg, hspi, hcpucfg⟩ := h
  exact ⟨hcfg, hspi ▸ .keep, hcpucfg ▸ .keep⟩

/-- An r40 write in the r40 variant. -/
theorem StorageStep.of_r40 (hv : s.cfg.variant = .r40) (r : R40Reg) (v : Word)
    (h : t.cfg = s.cfg ∧ t.spi = s.spi ∧ t.cpucfg = { s.cpucfg with r40 := writeReg40 s.cpucfg.r40 r v }) :
    StorageStep s (r40WriteInstr v r) t := by
  obtain ⟨hcfg, hspi, hcpucfg⟩ := h
  exact ⟨hcfg, hspi ▸ .keep, hcpucfg ▸ .r40 hv r v⟩

/-- The TCR write: a burst if the start bit is set, then the store (R160, R165). -/
theorem storageStep_sWTcr (s : State) (sz : SpiSize) (v : Word) :
    ∃ t, exec (.sWTcr sz v) s = .next t ∧ StorageStep s (.sWTcr sz v) t := by
  refine ⟨_, rfl, ?_⟩
  split
  · refine ⟨s.burst_cfg, ?_, s.burst_cpucfg ▸ .keep⟩
    have h := SpiChange.tcr (s := s) sz v (.inl rfl)
    rw [← s.burst_cfg] at h
    exact h
  · exact ⟨rfl, .tcr sz v (.inr rfl), .keep⟩

/-- A read of an r40 slot changes no storage in either variant. -/
theorem State.readR40_storage (s : State) (r : R40Reg) : StorageStep s i (s.readR40 r) := by
  cases hv : s.cfg.variant with
  | base => exact .of_eq (by rw [s.readR40_base hv]; exact ⟨rfl, rfl, rfl⟩)
  | r40 => exact .of_eq (by rw [s.readR40_r40 hv]; exact ⟨rfl, rfl, rfl⟩)

/-- A write of an r40 register that is no power switch. -/
theorem State.writeR40_storage (s : State) (r : R40Reg) (v : Word) :
    StorageStep s (r40WriteInstr v r) (s.writeR40 r v) := by
  cases hv : s.cfg.variant with
  | base => exact .of_eq (by rw [s.writeR40_base hv]; exact ⟨rfl, rfl, rfl⟩)
  | r40 => exact .of_r40 hv r v (by rw [s.writeR40_r40 hv]; exact ⟨rfl, rfl, rfl⟩)

/-- A write of a power switch. -/
theorem State.writePsw_storage (s : State) (n : CoreId) (v : Word) :
    StorageStep s (r40WriteInstr v (.psw n)) (s.writePsw n v) := by
  cases hv : s.cfg.variant with
  | base => exact .of_eq (by rw [s.writePsw_base hv]; exact ⟨rfl, rfl, rfl⟩)
  | r40 => exact .of_r40 hv _ v (s.writePsw_storage_r40 hv n v)

/-- Every operation completes, and makes to the storage only the change that is its own. -/
theorem exec_storage (i : Instr) (s : State) : ∃ t, exec i s = .next t ∧ StorageStep s i t := by
  cases i with
  | sWGcr sz v => exact ⟨_, rfl, rfl, .gcr sz v, .keep⟩
  | sWTcr sz v => exact storageStep_sWTcr s sz v
  | sWIer sz v => exact ⟨_, rfl, rfl, .ier sz v, .keep⟩
  | sWIsr sz v => exact ⟨_, rfl, rfl, .isr sz v, .keep⟩
  | sWFcr sz v => exact ⟨_, rfl, rfl, .fcr sz v, .keep⟩
  | sWWcr sz v => exact ⟨_, rfl, rfl, .wcr sz v, .keep⟩
  | sWCcr sz v => exact ⟨_, rfl, rfl, .ccr sz v, .keep⟩
  | sWMbc sz v => exact ⟨_, rfl, rfl, .mbc sz v, .keep⟩
  | sWMtc sz v => exact ⟨_, rfl, rfl, .mtc sz v, .keep⟩
  | sWBcc sz v => exact ⟨_, rfl, rfl, .bcc sz v, .keep⟩
  | sWDmactl sz v => exact ⟨_, rfl, rfl, .dmactl sz v, .keep⟩
  | sWTxd sz v => exact ⟨_, rfl, rfl, .txd sz v, .keep⟩
  | sRRxd sz => exact ⟨_, rfl, rfl, .rxd sz, .keep⟩
  | cWRstCtrl0 v | cWRstCtrl1 v | cWRstCtrl2 v | cWRstCtrl3 v => exact ⟨_, rfl, .of_eq (s.writeRstCtrl_storage _ v)⟩
  | cWGenCtrl v => exact ⟨_, rfl, rfl, .keep, .genCtrl v⟩
  | cWSuperStandby v => exact ⟨_, rfl, rfl, .keep, .superStandby v⟩
  | cWEntryAddr v => exact ⟨_, rfl, rfl, .keep, .entryAddr v⟩
  | cRPwroffGating | cRPsw0 | cRPsw1 | cRPsw2 | cRPsw3 | cRPswDelay | cRCfgDelay | cRPwrdnCfg
  | cRPwrupCfg0 | cRPwrupCfg1 | cRPwrupCfg2 | cRPwrupCfg3 | cRPwrupCfg4 | cRPwrupCfg5 =>
    exact ⟨_, rfl, s.readR40_storage _⟩
  | cWPwroffGating v => exact ⟨_, rfl, s.writeR40_storage .pwroffGating v⟩
  | cWPsw0 v => exact ⟨_, rfl, s.writePsw_storage 0 v⟩
  | cWPsw1 v => exact ⟨_, rfl, s.writePsw_storage 1 v⟩
  | cWPsw2 v => exact ⟨_, rfl, s.writePsw_storage 2 v⟩
  | cWPsw3 v => exact ⟨_, rfl, s.writePsw_storage 3 v⟩
  | cWPswDelay v => exact ⟨_, rfl, s.writeR40_storage .pswDelay v⟩
  | cWCfgDelay v => exact ⟨_, rfl, s.writeR40_storage .cfgDelay v⟩
  | cWPwrdnCfg v => exact ⟨_, rfl, s.writeR40_storage .pwrdnCfg v⟩
  | cWPwrupCfg0 v => exact ⟨_, rfl, s.writeR40_storage (.pwrupCfg 0) v⟩
  | cWPwrupCfg1 v => exact ⟨_, rfl, s.writeR40_storage (.pwrupCfg 1) v⟩
  | cWPwrupCfg2 v => exact ⟨_, rfl, s.writeR40_storage (.pwrupCfg 2) v⟩
  | cWPwrupCfg3 v => exact ⟨_, rfl, s.writeR40_storage (.pwrupCfg 3) v⟩
  | cWPwrupCfg4 v => exact ⟨_, rfl, s.writeR40_storage (.pwrupCfg 4) v⟩
  | cWPwrupCfg5 v => exact ⟨_, rfl, s.writeR40_storage (.pwrupCfg 5) v⟩
  | _ => exact ⟨_, rfl, rfl, .keep, .keep⟩

/-- The storage after an operation, whatever next state it is asked of. -/
theorem StorageStep.of_exec (h : exec i s = .next t) : StorageStep s i t := by
  obtain ⟨t', he, hst⟩ := exec_storage i s
  obtain rfl : t' = t := Host.Outcome.next.inj (he.symm.trans h)
  exact hst

end Sys2Proof.Machine
end

section
/-! SUPPORT. The invariant (spec/10_state.md R25, R28, R29, R57; spec/40_fifo.md R107): what keeps a good block S good,
what a step can be, and the invariant of every reachable state. -/

namespace Sys2Proof.Machine

namespace SpiBlock.Good

variable {cfg : Config} {b : SpiBlock}

/-- A new TX of the same capacity and within it. -/
theorem setTx (h : b.Good cfg) {q : WordQueue} (hcap : q.cap = b.tx.cap) (hlen : q.items.length ≤ b.tx.cap) :
    ({ b with tx := q } : SpiBlock).Good cfg :=
  { h with txCap := hcap.trans h.txCap, txLen := h.txCap ▸ hlen }

/-- A new RX of the same capacity and within it. -/
theorem setRx (h : b.Good cfg) {q : WordQueue} (hcap : q.cap = b.rx.cap) (hlen : q.items.length ≤ b.rx.cap) :
    ({ b with rx := q } : SpiBlock).Good cfg :=
  { h with rxCap := hcap.trans h.rxCap, rxLen := h.rxCap ▸ hlen }

theorem tx_within (h : b.Good cfg) : b.tx.items.length ≤ b.tx.cap :=
  h.txCap ▸ h.txLen

theorem rx_within (h : b.Good cfg) : b.rx.items.length ≤ b.rx.cap :=
  h.rxCap ▸ h.rxLen

theorem pushTx (h : b.Good cfg) (w : Word) : ({ b with tx := b.tx.push w } : SpiBlock).Good cfg :=
  h.setTx (b.tx.push_cap w) (b.tx.push_length_le w h.tx_within)

theorem popTx (h : b.Good cfg) : ({ b with tx := b.tx.pop.2 } : SpiBlock).Good cfg :=
  h.setTx b.tx.pop_cap (b.tx.pop_length_le.trans h.tx_within)

theorem pushRx (h : b.Good cfg) (w : Word) : ({ b with rx := b.rx.push w } : SpiBlock).Good cfg :=
  h.setRx (b.rx.push_cap w) (b.rx.push_length_le w h.rx_within)

theorem popRx (h : b.Good cfg) : ({ b with rx := b.rx.pop.2 } : SpiBlock).Good cfg :=
  h.setRx b.rx.pop_cap (b.rx.pop_length_le.trans h.rx_within)

/-- The store step of a TCR write clears the start bit (R28, R165). -/
theorem storeTcr (h : b.Good cfg) (v : Word) : ({ b with tcr := clearBit cfg.tcrXchBit v } : SpiBlock).Good cfg :=
  { h with xch := getLsbD_clearBit _ v }

/-- A FIFO-control write empties queues and clears both reset bits (R29, R130); the bit cleared first stays clear when
the second is cleared. -/
theorem fcrWrite (h : b.Good cfg) (v : Word) : (spiFcrWrite cfg b v).Good cfg where
  txCap := (b.tx.ite_reset_cap _).trans h.txCap
  rxCap := (b.rx.ite_reset_cap _).trans h.rxCap
  txLen := (b.tx.ite_reset_length_le _).trans h.txLen
  rxLen := (b.rx.ite_reset_length_le _).trans h.rxLen
  xch := h.xch
  tfRst := by
    have hfirst := getLsbD_clearBit cfg.fcrTfRstBit v
    simp only [spiFcrWrite, clearBit, BitVec.getLsbD_and] at hfirst ⊢
    rw [hfirst, Bool.false_and]
  rfRst := getLsbD_clearBit _ _

/-- A reset event empties the queues, keeps their capacity and loads power-on constants whose self-clearing bits an
admissible configuration has clear (R28, R29, R261, R262). -/
theorem resetBlock (hwf : cfg.wf = true) (htx : b.tx.cap = cfg.spiDepth.words) (hrx : b.rx.cap = cfg.spiDepth.words) :
    b.resetBlock.Good cfg := by
  simp only [Config.wf, Bool.and_eq_true, Bool.not_eq_true'] at hwf
  obtain ⟨⟨⟨-, hxch⟩, htf⟩, hrf⟩ := hwf
  exact ⟨htx, hrx, Nat.zero_le _, Nat.zero_le _, hxch, htf, hrf⟩

end SpiBlock.Good

variable {s t : State} {i : Instr}

/-- A burst keeps block S good: each turn pops TX and pushes RX at most once. -/
theorem State.burst_good {cfg : Config} (h : s.spi.Good cfg) : s.burst.spi.Good cfg := by
  refine s.burst_induction (P := fun b => b.Good cfg) ?_ h
  intro u hu
  obtain ⟨r, rest, -, hw⟩ := u.burstWord_spec
  rw [hw]
  dsimp only
  split
  · exact hu.popTx
  · exact hu.popTx.pushRx r

/-- No operation takes block S out of its bounds. -/
theorem SpiChange.good {b : SpiBlock} (hc : SpiChange s i b) (h : s.spi.Good s.cfg) : b.Good s.cfg := by
  cases hc with
  | tcr sz v hu =>
    rcases hu with rfl | rfl
    · exact (State.burst_good h).storeTcr _
    · exact h.storeTcr _
  | fcr sz v => exact h.fcrWrite _
  | txd sz v => exact h.pushTx _
  | rxd sz => exact h.popRx
  | keep | gcr | ier | isr | wcr | ccr | mbc | mtc | bcc | dmactl => exact { h with }

/-- What the next host interaction can come to: it stops the machine, is refused, is a reset event, or is an access that
runs an operation. -/
theorem State.serve_cases (s : State) (m : HostMove) :
    (s.serve m = .overlap ∨ s.serve m = .outside) ∨ (∃ r, s.serve m = s.refuse r) ∨
      (∃ u, s.serve m = .ended (s.resetEvent u).complete) ∨ ∃ i, s.serve m = .run i s := by
  have haccess : ∀ a, (∃ r, s.serveAccess a = s.refuse r) ∨ ∃ i, s.serveAccess a = .run i s := by
    intro a
    unfold State.serveAccess
    split
    · exact .inr ⟨_, rfl⟩
    · exact .inl ⟨_, rfl⟩
  have hbus : ∀ dir addr size data,
      (s.serveBus dir addr size data = .overlap ∨ s.serveBus dir addr size data = .outside) ∨
        (∃ r, s.serveBus dir addr size data = s.refuse r) ∨ ∃ i, s.serveBus dir addr size data = .run i s := by
    intro dir addr size data
    unfold State.serveBus
    split
    · exact .inl (.inr rfl)
    · exact .inl (.inl rfl)
    · split
      · exact .inr (.inl ⟨_, rfl⟩)
      · exact .inr (haccess _)
  cases m with
  | access a => exact .inr ((haccess a).imp id .inr)
  | busRead addr size => exact (hbus .read addr size 0).imp id (.imp id .inr)
  | busWrite addr bytes => exact (hbus .write addr bytes.length _).imp id (.imp id .inr)
  | fetch addr =>
    rw [State.serve, State.serveFetch]
    split
    · exact .inl (.inr rfl)
    · exact .inl (.inl rfl)
    · exact .inr (.inl ⟨_, rfl⟩)
  | reset u => exact .inr (.inr (.inl ⟨u, rfl⟩))

/-- Everything a step that goes on can be (R13, R59, R233, R260): waiting, or one interaction taken off the host's list
and refused, carried out as a reset event, or run as an operation. -/
theorem step_cases (h : step s = .next t) :
    (s.pending = [] ∧ t = s) ∨ ∃ m rest, s.pending = m :: rest ∧
      ((∃ r, t = (s.setPending rest).reply (.refused r)) ∨ (∃ u, t = ((s.setPending rest).resetEvent u).complete) ∨
        ∃ i, exec i (s.setPending rest) = .next t) := by
  cases hp : s.pending with
  | nil =>
    rw [step, State.serveNext, hp] at h
    exact .inl ⟨rfl, (Host.Outcome.next.inj h).symm⟩
  | cons m rest =>
    refine .inr ⟨m, rest, rfl, ?_⟩
    rw [step, State.serveNext_of_pending_cons hp] at h
    rcases (s.setPending rest).serve_cases m with (hs | hs) | ⟨r, hs⟩ | ⟨u, hs⟩ | ⟨i, hs⟩ <;> rw [hs] at h
    · nomatch h
    · nomatch h
    · exact .inl ⟨r, (Host.Outcome.next.inj h).symm⟩
    · exact .inr (.inl ⟨u, (Host.Outcome.next.inj h).symm⟩)
    · exact .inr (.inr ⟨i, h⟩)

@[simp] theorem State.resetEvent_cfg (s : State) (u : Block) : (s.resetEvent u).cfg = s.cfg := by
  cases u <;> rfl

/-- A reset event keeps the invariant; that of block C does not touch block S. -/
theorem State.Inv.resetEvent (h : s.Inv) (u : Block) : (s.resetEvent u).Inv where
  cfgWf := by rw [s.resetEvent_cfg]; exact h.cfgWf
  spiGood := by
    cases u with
    | spi => exact .resetBlock h.cfgWf h.spiGood.txCap h.spiGood.rxCap
    | cpucfg => exact h.spiGood

/-- An operation keeps the invariant. -/
theorem State.Inv.of_exec (h : s.Inv) (he : exec i s = .next t) : t.Inv := by
  obtain ⟨hcfg, hspi, -⟩ := StorageStep.of_exec he
  exact ⟨hcfg ▸ h.cfgWf, hcfg ▸ hspi.good h.spiGood⟩

/-- Settles O49: waiting, taking an interaction off the list and refusing it change nothing the invariant speaks of;
a reset event and an operation keep it. -/
theorem stepKeepsInvariant : Obligations.StepKeepsInvariant := by
  intro s t h hstep
  obtain ⟨-, rfl⟩ | ⟨m, rest, -, hserved⟩ := step_cases hstep
  · exact h
  · have hrest : (s.setPending rest).Inv := ⟨h.cfgWf, h.spiGood⟩
    obtain ⟨r, rfl⟩ | ⟨u, rfl⟩ | ⟨i, he⟩ := hserved
    · exact ⟨h.cfgWf, h.spiGood⟩
    · have hreset := hrest.resetEvent u
      exact ⟨hreset.cfgWf, hreset.spiGood⟩
    · exact hrest.of_exec he

/-- No step changes the configuration (R57). -/
theorem step_cfg (h : step s = .next t) : t.cfg = s.cfg := by
  obtain ⟨-, rfl⟩ | ⟨m, rest, -, ⟨r, rfl⟩ | ⟨u, rfl⟩ | ⟨i, he⟩⟩ := step_cases h
  · rfl
  · rfl
  · exact State.resetEvent_cfg _ u
  · exact (StorageStep.of_exec he).cfg

/-- The invariant at creation under an admissible configuration (R267). -/
theorem State.launch_inv {cfg : Config} (hwf : cfg.wf = true) : (State.launch cfg).Inv :=
  ⟨hwf, .resetBlock hwf rfl rfl⟩

/-- Every state that a state within the invariant leads to is within it and has its configuration. -/
theorem Leads.inv_cfg (hl : Leads s t) (h : s.Inv) : t.Inv ∧ t.cfg = s.cfg := by
  induction hl with
  | refl => exact ⟨h, rfl⟩
  | tail _ hstep ih =>
    obtain ⟨hinv, hcfg⟩ := ih
    exact ⟨stepKeepsInvariant _ _ hinv hstep, (step_cfg hstep).trans hcfg⟩

/-- Settles O50: creation meets the invariant whatever the host will ask and the environment will answer, every step
keeps it, and the invariant holds the three bits at 0. -/
theorem selfClearingBitsReadZeroWhereverReachable : Obligations.SelfClearingBitsReadZeroWhereverReachable := by
  intro cfg ms answers t hwf hl
  have hlaunch := State.launch_inv hwf
  obtain ⟨⟨-, hgood⟩, hcfg⟩ := hl.inv_cfg ⟨hlaunch.cfgWf, hlaunch.spiGood⟩
  obtain rfl : t.cfg = cfg := hcfg
  exact ⟨hgood.xch, hgood.tfRst, hgood.rfRst⟩

end Sys2Proof.Machine
end

section
/-! SUPPORT. Which operations change a stored register or a queue (spec/10_state.md R24, R25, R43, R46). -/

namespace Sys2Proof.Machine

variable {s : State} {i : Instr}

/-- Each stored register of S changes by its own write only; a burst changes queues and no register (R167). -/
theorem SpiChange.register {b : SpiBlock} (h : SpiChange s i b) :
    (b.gcr ≠ s.spi.gcr → ∃ sz v, i = .sWGcr sz v) ∧ (b.tcr ≠ s.spi.tcr → ∃ sz v, i = .sWTcr sz v) ∧
    (b.ier ≠ s.spi.ier → ∃ sz v, i = .sWIer sz v) ∧ (b.isr ≠ s.spi.isr → ∃ sz v, i = .sWIsr sz v) ∧
    (b.fcr ≠ s.spi.fcr → ∃ sz v, i = .sWFcr sz v) ∧ (b.wcr ≠ s.spi.wcr → ∃ sz v, i = .sWWcr sz v) ∧
    (b.ccr ≠ s.spi.ccr → ∃ sz v, i = .sWCcr sz v) ∧ (b.mbc ≠ s.spi.mbc → ∃ sz v, i = .sWMbc sz v) ∧
    (b.mtc ≠ s.spi.mtc → ∃ sz v, i = .sWMtc sz v) ∧ (b.bcc ≠ s.spi.bcc → ∃ sz v, i = .sWBcc sz v) ∧
    (b.dmactl ≠ s.spi.dmactl → ∃ sz v, i = .sWDmactl sz v) := by
  cases h with
  | tcr sz v hu =>
    obtain ⟨tx, rx, hb⟩ := s.burst_spi
    rcases hu with rfl | rfl
    · rw [hb]
      simp
    · simp
  | fcr sz v => simp [spiFcrWrite]
  | keep | gcr | ier | isr | wcr | ccr | mbc | mtc | bcc | dmactl | txd | rxd => simp

/-- Each stored register of C changes by its own write only. -/
theorem CpucfgChange.register {c : CpucfgBlock} (h : CpucfgChange s i c) :
    (c.genCtrl ≠ s.cpucfg.genCtrl → ∃ v, i = .cWGenCtrl v) ∧
    (c.superStandby ≠ s.cpucfg.superStandby → ∃ v, i = .cWSuperStandby v) ∧
    (c.entryAddr ≠ s.cpucfg.entryAddr → ∃ v, i = .cWEntryAddr v) ∧
    ∀ r, readReg40 c.r40 r ≠ readReg40 s.cpucfg.r40 r → ∃ v, i = r40WriteInstr v r := by
  cases h with
  | r40 hv r v =>
    refine ⟨by simp, by simp, by simp, fun r' hne => ?_⟩
    rw [readReg40_writeReg40] at hne
    split at hne
    · next hr => exact ⟨v, by rw [hr]⟩
    · exact absurd rfl hne
  | keep | genCtrl | superStandby | entryAddr => simp

/-- Settles O55: what an operation changes of each block is listed by `SpiChange` and `CpucfgChange`, and no change but
the register's own write touches it. -/
theorem noOperationButItsOwnWriteChangesARegister : Obligations.NoOperationButItsOwnWriteChangesARegister := by
  intro i s
  obtain ⟨t, he, -, hspi, hcpucfg⟩ := exec_storage i s
  obtain ⟨hgcr, htcr, hier, hisr, hfcr, hwcr, hccr, hmbc, hmtc, hbcc, hdmactl⟩ := hspi.register
  exact ⟨t, he, hgcr, htcr, hier, hisr, hfcr, hwcr, hccr, hmbc, hmtc, hbcc, hdmactl, hcpucfg.register⟩

/-- TX is changed by a TXD, TCR or FCR write, and lengthened by a TXD write only. -/
theorem SpiChange.tx {b : SpiBlock} (h : SpiChange s i b) :
    (b.tx ≠ s.spi.tx → (∃ sz v, i = .sWTxd sz v) ∨ (∃ sz v, i = .sWTcr sz v) ∨ ∃ sz v, i = .sWFcr sz v) ∧
    (s.spi.tx.items.length < b.tx.items.length → ∃ sz v, i = .sWTxd sz v) := by
  cases h with
  | txd sz v => exact ⟨fun _ => .inl ⟨sz, v, rfl⟩, fun _ => ⟨sz, v, rfl⟩⟩
  | tcr sz v hu =>
    refine ⟨fun _ => .inr (.inl ⟨sz, v, rfl⟩), fun hlt => absurd hlt (Nat.not_lt.mpr ?_)⟩
    rcases hu with rfl | rfl
    · exact s.burst_tx_length_le
    · exact Nat.le_refl _
  | fcr sz v =>
    exact ⟨fun _ => .inr (.inr ⟨sz, v, rfl⟩), fun hlt => absurd hlt (Nat.not_lt.mpr (s.spi.tx.ite_reset_length_le _))⟩
  | keep | gcr | ier | isr | wcr | ccr | mbc | mtc | bcc | dmactl | rxd => simp

/-- RX is changed by an RXD read or a TCR or FCR write, and lengthened by a TCR write only. -/
theorem SpiChange.rx {b : SpiBlock} (h : SpiChange s i b) :
    (b.rx ≠ s.spi.rx → (∃ sz, i = .sRRxd sz) ∨ (∃ sz v, i = .sWTcr sz v) ∨ ∃ sz v, i = .sWFcr sz v) ∧
    (s.spi.rx.items.length < b.rx.items.length → ∃ sz v, i = .sWTcr sz v) := by
  cases h with
  | rxd sz => exact ⟨fun _ => .inl ⟨sz, rfl⟩, fun hlt => absurd hlt (Nat.not_lt.mpr s.spi.rx.pop_length_le)⟩
  | tcr sz v hu => exact ⟨fun _ => .inr (.inl ⟨sz, v, rfl⟩), fun _ => ⟨sz, v, rfl⟩⟩
  | fcr sz v =>
    exact ⟨fun _ => .inr (.inr ⟨sz, v, rfl⟩), fun hlt => absurd hlt (Nat.not_lt.mpr (s.spi.rx.ite_reset_length_le _))⟩
  | keep | gcr | ier | isr | wcr | ccr | mbc | mtc | bcc | dmactl | txd => simp

/-- Settles O56, from the listed changes of block S: a burst pops one word of TX a turn and never pushes there. -/
theorem noOtherOperationChangesAQueue : Obligations.NoOtherOperationChangesAQueue := by
  intro i s
  obtain ⟨t, he, -, hspi, -⟩ := exec_storage i s
  obtain ⟨htx, htxLonger⟩ := hspi.tx
  exact ⟨t, he, htx, htxLonger, hspi.rx⟩

end Sys2Proof.Machine
end

section
/-! SUPPORT. The r40 registers' place in the base variant (spec/10_state.md R45): an operation does the same whatever it
holds. -/

namespace Sys2Proof.Machine

variable (s : State)

/-- An exchange does not read block C. -/
theorem State.exchange_setCpucfg (c : CpucfgBlock) (w : Word) :
    (s.setCpucfg c).exchange w = ((s.exchange w).1, (s.exchange w).2.setCpucfg c) := by
  simp only [State.exchange, State.setCpucfg_script]
  split <;> rfl

/-- One turn of the word loop does not read block C. -/
theorem State.burstWord_setCpucfg (c : CpucfgBlock) : (s.setCpucfg c).burstWord = s.burstWord.setCpucfg c := by
  have hanswer := (s.setSpi { s.spi with tx := s.spi.tx.pop.2 }).exchange_setCpucfg c s.spi.tx.pop.1
  have hcomm : (s.setCpucfg c).setSpi { s.spi with tx := s.spi.tx.pop.2 } =
    (s.setSpi { s.spi with tx := s.spi.tx.pop.2 }).setCpucfg c := rfl
  simp only [State.burstWord, State.setCpucfg_spi, hcomm, hanswer]
  split <;> rfl

/-- The word loop does not read block C. -/
theorem State.burstLoop_setCpucfg (c : CpucfgBlock) (n : Nat) :
    (s.setCpucfg c).burstLoop n = (s.burstLoop n).setCpucfg c := by
  induction n generalizing s with
  | zero => rfl
  | succ n ih =>
    rw [State.burstLoop, s.burstWord_setCpucfg, ih]
    rfl

/-- A burst does not read block C. -/
theorem State.burst_setCpucfg (c : CpucfgBlock) : (s.setCpucfg c).burst = s.burst.setCpucfg c := by
  by_cases hz : declaredLength s.spi = 0
  · rw [s.burst_zero hz, (s.setCpucfg c).burst_zero hz]
    rfl
  · by_cases hc : declaredLength s.spi = s.spi.tx.count
    · rw [s.burst_of_eq hz hc, (s.setCpucfg c).burst_of_eq hz hc]
      exact s.burstLoop_setCpucfg c _
    · rw [s.burst_of_ne hz hc, (s.setCpucfg c).burst_of_ne hz hc]
      exact (s.log ..).burstLoop_setCpucfg c _

/-- A lookup does not read block C. -/
theorem State.lookup_setCpucfg (c : CpucfgBlock) (n : CoreId) :
    (s.setCpucfg c).lookup n = ((s.lookup n).1, (s.lookup n).2.setCpucfg c) := by
  simp only [State.lookup, State.setCpucfg_script]
  split <;> rfl

/-- A power-on request does not read block C. -/
theorem State.powerOn_setCpucfg (c : CpucfgBlock) (n : CoreId) (entry : BitVec 64) (el : Nat) (is64 : Bool) :
    (s.setCpucfg c).powerOn n entry el is64 =
      ((s.powerOn n entry el is64).1, (s.powerOn n entry el is64).2.setCpucfg c) := by
  simp only [State.powerOn, State.setCpucfg_script]
  split <;> rfl

/-- Of block C reset_core(n) reads the entry address only (R187). -/
theorem State.resetCore_setCpucfg {c : CpucfgBlock} (hc : c.entryAddr = s.cpucfg.entryAddr) (n : CoreId) (off : Offset) :
    (s.setCpucfg c).resetCore n off = (s.resetCore n off).setCpucfg c := by
  obtain ⟨h, rest, -, hl⟩ := s.lookup_spec n
  cases h with
  | none => simp only [State.resetCore, s.lookup_setCpucfg, hl]
  | some core =>
    simp only [State.resetCore, s.lookup_setCpucfg, hl, State.powerOn_setCpucfg, State.setCpucfg_cpucfg, hc,
      State.emit_cpucfg, State.setScript_cpucfg]
    split <;> rfl

/-- The same state with other contents in the r40 registers' place. -/
def State.withR40 (f : R40Regs) : State :=
  s.setCpucfg { s.cpucfg with r40 := f }

/-- A reset-control write does not read the r40 registers' place. -/
theorem State.writeRstCtrl_withR40 (f : R40Regs) (n : CoreId) (v : Word) :
    (s.withR40 f).writeRstCtrl n v = (s.writeRstCtrl n v).withR40 f := by
  by_cases hv : v = 0
  · subst hv
    rfl
  · obtain ⟨-, -, hcpucfg⟩ := s.resetCore_storage n (CpucfgReg.offset s.cfg (.rstCtrl n))
    have hreset := s.resetCore_setCpucfg (c := { s.cpucfg with r40 := f }) rfl n (CpucfgReg.offset s.cfg (.rstCtrl n))
    rw [State.writeRstCtrl_of_ne _ n v hv, State.writeRstCtrl_of_ne _ n v hv]
    simp only [State.withR40, State.setCpucfg_cfg, hreset, State.complete_cpucfg, hcpucfg]
    rfl

section Base

variable {s}

/-- In the base variant a read of an r40 slot does not read the r40 registers' place. -/
theorem State.readR40_withR40 (hv : s.cfg.variant = .base) (f : R40Regs) (r : R40Reg) :
    (s.withR40 f).readR40 r = (s.readR40 r).withR40 f := by
  rw [State.readR40_base _ hv, State.readR40_base (s.withR40 f) hv]
  rfl

/-- In the base variant a write of an r40 slot does not touch the r40 registers' place. -/
theorem State.writeR40_withR40 (hv : s.cfg.variant = .base) (f : R40Regs) (r : R40Reg) (v : Word) :
    (s.withR40 f).writeR40 r v = (s.writeR40 r v).withR40 f := by
  rw [State.writeR40_base _ hv, State.writeR40_base (s.withR40 f) hv]
  rfl

/-- In the base variant a write of a power switch's slot does not touch the r40 registers' place. -/
theorem State.writePsw_withR40 (hv : s.cfg.variant = .base) (f : R40Regs) (n : CoreId) (v : Word) :
    (s.withR40 f).writePsw n v = (s.writePsw n v).withR40 f := by
  rw [State.writePsw_base _ hv, State.writePsw_base (s.withR40 f) hv]
  rfl

/-- A TCR write does not read the r40 registers' place. -/
theorem exec_sWTcr_withR40 (f : R40Regs) (sz : SpiSize) (v : Word) : ∃ t, exec (.sWTcr sz v) s = .next t ∧
    exec (.sWTcr sz v) (s.withR40 f) = .next (t.withR40 f) := by
  refine ⟨_, rfl, congrArg Host.Outcome.next ?_⟩
  have hburst : (s.withR40 f).burst = s.burst.withR40 f := by
    rw [State.withR40, s.burst_setCpucfg, State.withR40, s.burst_cpucfg]
  have hcfg : (s.withR40 f).cfg = s.cfg := rfl
  rw [hburst, hcfg]
  split <;> rfl

/-- In the base variant no operation reads or writes the r40 registers' place. -/
theorem exec_withR40 (hv : s.cfg.variant = .base) (f : R40Regs) (i : Instr) : ∃ t, exec i s = .next t ∧
    exec i (s.withR40 f) = .next (t.withR40 f) := by
  cases i with
  | sWTcr sz v => exact exec_sWTcr_withR40 f sz v
  | cWRstCtrl0 v | cWRstCtrl1 v | cWRstCtrl2 v | cWRstCtrl3 v =>
    exact ⟨_, rfl, congrArg _ (s.writeRstCtrl_withR40 f _ v)⟩
  | cRPwroffGating | cRPsw0 | cRPsw1 | cRPsw2 | cRPsw3 | cRPswDelay | cRCfgDelay | cRPwrdnCfg
  | cRPwrupCfg0 | cRPwrupCfg1 | cRPwrupCfg2 | cRPwrupCfg3 | cRPwrupCfg4 | cRPwrupCfg5 =>
    exact ⟨_, rfl, congrArg _ (State.readR40_withR40 hv f _)⟩
  | cWPsw0 v | cWPsw1 v | cWPsw2 v | cWPsw3 v => exact ⟨_, rfl, congrArg _ (State.writePsw_withR40 hv f _ v)⟩
  | cWPwroffGating v | cWPswDelay v | cWCfgDelay v | cWPwrdnCfg v | cWPwrupCfg0 v | cWPwrupCfg1 v | cWPwrupCfg2 v
  | cWPwrupCfg3 v | cWPwrupCfg4 v | cWPwrupCfg5 v =>
    exact ⟨_, rfl, congrArg _ (State.writeR40_withR40 hv f _ v)⟩
  | _ => exact ⟨_, rfl, rfl⟩

/-- In the base variant no change of block C is one of an r40 register. -/
theorem CpucfgChange.r40_of_base {i : Instr} {c : CpucfgBlock} (h : CpucfgChange s i c)
    (hv : s.cfg.variant = .base) : c.r40 = s.cpucfg.r40 := by
  cases h with
  | r40 hr => rw [hv] at hr; nomatch hr
  | keep | genCtrl | superStandby | entryAddr => rfl

end Base

/-- Settles O53: the frame is that no r40 change happens in the base variant; the noninterference runs the operation on
the state with other contents there. -/
theorem baseVariantHasNoR40Registers : Obligations.BaseVariantHasNoR40Registers := by
  intro i s f hv
  obtain ⟨t, he, hother⟩ := exec_withR40 hv f i
  exact ⟨t, he, (StorageStep.of_exec he).cpucfg.r40_of_base hv, hother⟩

end Sys2Proof.Machine
end

section
/-! SUPPORT. The waiting machine (spec/10_state.md R21, R59) and the fields after a reset (R30 to R41). -/

namespace Sys2Proof.Machine

/-- Settles O14: with an empty list the next interaction is none, and the machine waits. -/
theorem idleMachineWaits : Obligations.IdleMachineWaits := by
  intro s hp
  have hidle : s.serveNext = .idle := by rw [State.serveNext, hp]
  rw [step, hidle]

/-- The word each S register reads as after a reset, if it holds one (R26, R27, R262). -/
def resetWord : SpiReg → Option Word
  | .gcr => some 0x00000080
  | .tcr => some 0x00000087
  | .isr => some 0x00000032
  | .fcr => some 0x00400001
  | .ccr => some 0x00000002
  | .dmactl => some 0x000000A5
  | .ier | .fsr | .wcr | .mbc | .mtc | .bcc => some 0x00000000
  | .txd | .rxd => none

/-- FSR counts no word of two reset queues. -/
theorem fsrWord_reset (tx rx : WordQueue) : fsrWord tx.reset rx.reset = 0 := by
  simp [fsrWord, WordQueue.count]

/-- A reset event loads the power-on constants whatever the block held before (R261, R262). -/
theorem spiWord_resetEvent (s : State) (r : SpiReg) : spiWord (s.resetEvent .spi).spi r = resetWord r := by
  cases r with
  | fsr => exact congrArg some (fsrWord_reset s.spi.tx s.spi.rx)
  | _ => rfl

/-- The fields of a register that holds a word after a reset tile its 32 bits, and there each has its reset value. -/
theorem fields_of_resetWord {r : SpiReg} {w : Word} (h : resetWord r = some w) :
    fieldsTile 0 (spiFields r) = true ∧ ∀ f ∈ spiFields r, f.of w = f.reset := by
  cases r with
  | txd | rxd => nomatch h
  | gcr | tcr | ier | isr | fcr | fsr | wcr | ccr | mbc | mtc | bcc | dmactl =>
    cases h
    decide

/-- Settles O47, on the words the reset loads. -/
theorem fieldsReadTheirResetValues : Obligations.FieldsReadTheirResetValues := by
  intro r w s hw
  rw [spiWord_resetEvent] at hw
  exact fields_of_resetWord hw

end Sys2Proof.Machine
end

section
/-! SUPPORT. Where a bus access leads (spec/20_memory.md R60 to R65, R68): its route, the descriptor it is delivered as,
and the step it takes. -/

namespace Sys2Proof.Machine

/-- The number that the fields U, SZ and D of a descriptor make, for an access of `size` bytes (R80 to R83). -/
def descriptorHead (u : Block) (dir : Dir) (size : Nat) : Nat :=
  match dir with
  | .read => (if u = .spi then 0 else 32768) + (size - 1) * 2048
  | .write => (if u = .spi then 0 else 32768) + (size - 1) * 2048 + 1024

/-- The fields above OFF leave its ten bits free. -/
theorem descriptorHead_eq_mul (u : Block) (dir : Dir) (size : Nat) :
    descriptorHead u dir size = 2 ^ 10 * (descriptorHead u dir size / 2 ^ 10) := by
  unfold descriptorHead
  cases u <;> cases dir <;> simp <;> omega

/-- A descriptor of a bus access as a number: the offset added to the other fields (R80, R82). -/
theorem mkDescriptor_eq_ofNat (u : Block) (dir : Dir) {size off : Nat} (hsize : 1 ≤ size ∧ size ≤ 4)
    (hoff : off < 0x400) :
    mkDescriptor u (BitVec.ofNat 2 (size - 1)) dir (BitVec.ofNat 10 off) =
      BitVec.ofNat 16 (descriptorHead u dir size + off) := by
  have hhead : mkDescriptor u (BitVec.ofNat 2 (size - 1)) dir 0 = BitVec.ofNat 16 (descriptorHead u dir size) := by
    obtain ⟨hlo, hhi⟩ := hsize
    interval_cases size <;> cases u <;> cases dir <;> rfl
  have hsplit : mkDescriptor u (BitVec.ofNat 2 (size - 1)) dir (BitVec.ofNat 10 off) =
      mkDescriptor u (BitVec.ofNat 2 (size - 1)) dir 0 ||| BitVec.ofNat 16 off := by
    simp [mkDescriptor, BitVec.setWidth_ofNat_of_le_of_lt, hoff]
  rw [hsplit, hhead, ← BitVec.ofNat_or, descriptorHead_eq_mul, Nat.two_pow_add_eq_or_of_lt hoff]

/-- A bus access has a descriptor if its size is one that a descriptor has (R82). -/
theorem busDescriptor_eq (u : Block) (dir : Dir) (size : Nat) {off : Nat} (hoff : off < 0x400) :
    busDescriptor u dir size off =
      if 1 ≤ size ∧ size ≤ 4 then some (BitVec.ofNat 16 (descriptorHead u dir size + off)) else none := by
  unfold busDescriptor
  split
  · next hsize => rw [mkDescriptor_eq_ofNat u dir hsize hoff]
  · rfl

section Route

variable {cfg : Config} {addr : Nat}

/-- An address in one block's window only leads there, at its distance from the base (R60, R61). -/
theorem routeAddr_of_only {u : Block} {base : Nat}
    (hu : u = .spi ∧ base = cfg.spiBase ∧ ¬(cfg.cpucfgBase ≤ addr ∧ addr < cfg.cpucfgBase + 0x400) ∨
      u = .cpucfg ∧ base = cfg.cpucfgBase ∧ ¬(cfg.spiBase ≤ addr ∧ addr < cfg.spiBase + 0x400))
    (hin : base ≤ addr ∧ addr < base + 0x400) : routeAddr cfg addr = .window u (addr - base) := by
  obtain ⟨rfl, rfl, hout⟩ | ⟨rfl, rfl, hout⟩ := hu <;>
    rw [routeAddr, inWindow_eq, inWindow_eq, decide_eq_true hin, decide_eq_false hout]

/-- An address in neither window leads nowhere (R62). -/
theorem routeAddr_of_neither (hspi : ¬(cfg.spiBase ≤ addr ∧ addr < cfg.spiBase + 0x400))
    (hcpucfg : ¬(cfg.cpucfgBase ≤ addr ∧ addr < cfg.cpucfgBase + 0x400)) : routeAddr cfg addr = .outside := by
  rw [routeAddr, inWindow_eq, inWindow_eq, decide_eq_false hspi, decide_eq_false hcpucfg]

/-- An address in both windows has no one block to lead to. -/
theorem routeAddr_of_both (hspi : cfg.spiBase ≤ addr ∧ addr < cfg.spiBase + 0x400)
    (hcpucfg : cfg.cpucfgBase ≤ addr ∧ addr < cfg.cpucfgBase + 0x400) : routeAddr cfg addr = .overlap := by
  rw [routeAddr, inWindow_eq, inWindow_eq, decide_eq_true hspi, decide_eq_true hcpucfg]

end Route

variable {s : State} {m : HostMove} {rest : List HostMove} {addr size : Nat} {bytes : List Byte}

/-- A bus access in one window is served as its descriptor's access, and refused if no descriptor has its size. -/
theorem State.serveBus_of_window {u : Block} {off : Nat} (dir : Dir) (data : Word)
    (hr : routeAddr s.cfg addr = .window u off) (hoff : off < 0x400) :
    s.serveBus dir addr size data =
      if 1 ≤ size ∧ size ≤ 4 then s.serveAccess ⟨BitVec.ofNat 16 (descriptorHead u dir size + off), data⟩
      else s.refuse .badSize := by
  rw [State.serveBus, hr]
  dsimp only
  rw [busDescriptor_eq u dir size hoff]
  by_cases hsize : 1 ≤ size ∧ size ≤ 4
  · rw [if_pos hsize, if_pos hsize]
  · rw [if_neg hsize, if_neg hsize]

/-- An interaction that is served as an access takes the step of that access. -/
theorem step_of_serve_eq_serveAccess {a : Access} (hp : s.pending = m :: rest)
    (hm : (s.setPending rest).serve m = (s.setPending rest).serveAccess a) :
    step s = step { s with pending := .access a :: rest } := by
  have hnext : s.serveNext = (s.setPending rest).serveAccess a := (State.serveNext_of_pending_cons hp).trans hm
  have hnext' : State.serveNext { s with pending := .access a :: rest } = (s.setPending rest).serveAccess a := rfl
  rw [step, step, hnext, hnext', State.serveAccess]
  cases decode (s.setPending rest).cfg a <;> rfl

/-- An interaction that is refused is answered with the refusal and nothing else changes (R233). -/
theorem step_of_serve_eq_refuse {r : RefuseReason} (hp : s.pending = m :: rest)
    (hm : (s.setPending rest).serve m = (s.setPending rest).refuse r) :
    step s = .next { s with pending := rest, replies := s.replies ++ [.refused r] } := by
  rw [step, State.serveNext_of_pending_cons hp, hm]
  rfl

/-- An interaction that is served as a bus access in one window takes the step of the descriptor's access, or is
refused. -/
theorem step_of_serve_eq_serveBus {u : Block} {off : Nat} {dir : Dir} {data : Word} (hp : s.pending = m :: rest)
    (hm : (s.setPending rest).serve m = (s.setPending rest).serveBus dir addr size data)
    (hr : routeAddr s.cfg addr = .window u off) (hoff : off < 0x400) :
    step s =
      if 1 ≤ size ∧ size ≤ 4 then
        step { s with pending := .access ⟨BitVec.ofNat 16 (descriptorHead u dir size + off), data⟩ :: rest }
      else .next { s with pending := rest, replies := s.replies ++ [.refused .badSize] } := by
  rw [State.serveBus_of_window (s := s.setPending rest) dir data hr hoff] at hm
  by_cases hsize : 1 ≤ size ∧ size ≤ 4
  · rw [if_pos hsize] at hm ⊢
    exact step_of_serve_eq_serveAccess hp hm
  · rw [if_neg hsize] at hm ⊢
    exact step_of_serve_eq_refuse hp hm

/-- Settles O11: the address has one route; a read and a write differ there in the direction bit and the data only. -/
theorem busAccessIsTheDescriptorAccess : Obligations.BusAccessIsTheDescriptorAccess := by
  intro s addr size bytes u base rest hu hlo hhi uBits
  have hr : routeAddr s.cfg addr = .window u (addr - base) := routeAddr_of_only hu ⟨hlo, hhi⟩
  have hoff : addr - base < 0x400 := by omega
  refine ⟨fun hp => ?_, fun hp => ?_⟩
  · exact step_of_serve_eq_serveBus (dir := .read) hp rfl hr hoff
  · exact step_of_serve_eq_serveBus (dir := .write) hp rfl hr hoff

/-- A bus access or a fetch has no meaning where its address leads nowhere (R62). -/
theorem State.serve_of_outside (hm : m = .busRead addr size ∨ m = .busWrite addr bytes ∨ m = .fetch addr)
    (hr : routeAddr s.cfg addr = .outside) : s.serve m = .outside := by
  obtain rfl | rfl | rfl := hm <;> simp only [State.serve, State.serveBus, State.serveFetch, hr]

/-- A bus access or a fetch at an address of both windows reaches no block. -/
theorem State.serve_of_overlap (hm : m = .busRead addr size ∨ m = .busWrite addr bytes ∨ m = .fetch addr)
    (hr : routeAddr s.cfg addr = .overlap) : s.serve m = .overlap := by
  obtain rfl | rfl | rfl := hm <;> simp only [State.serve, State.serveBus, State.serveFetch, hr]

/-- Settles O12: taking the interaction off the list keeps the configuration, so the address keeps its route; each route
out of the windows is one stop of the step. -/
theorem busAccessOutsideTheWindowsStops : Obligations.BusAccessOutsideTheWindowsStops := by
  intro s addr size bytes m rest hm hp
  refine ⟨fun hspi hcpucfg => ?_, fun hspi hcpucfg => ?_⟩
  · have hserve : (s.setPending rest).serve m = .outside :=
      State.serve_of_outside hm (routeAddr_of_neither hspi hcpucfg)
    rw [step, State.serveNext_of_pending_cons hp, hserve]
  · have hserve : (s.setPending rest).serve m = .overlap := State.serve_of_overlap hm (routeAddr_of_both hspi hcpucfg)
    rw [step, State.serveNext_of_pending_cons hp, hserve]

end Sys2Proof.Machine
end

section
/-! SUPPORT. What every operation keeps of the rest of the machine (spec/20_memory.md R70; spec/60_exceptions.md R230):
it appends to the history, gives one reply that is no refusal, and keeps the configuration and later interactions. -/

namespace Sys2Proof.Machine

/-- `u` is a state on the way of an operation begun in `s`, before its reply. -/
structure Underway (s u : State) : Prop where
  history : ∃ es, u.history = s.history ++ es
  replies : u.replies = s.replies
  cfg : u.cfg = s.cfg
  pending : u.pending = s.pending

/-- `t` is a state in which an operation begun in `s` has completed. -/
structure Completed (s t : State) : Prop where
  history : ∃ es, t.history = s.history ++ es
  replies : ∃ r, t.replies = s.replies ++ [r] ∧ ∀ q, r ≠ .refused q
  cfg : t.cfg = s.cfg
  pending : t.pending = s.pending

/-- The completion of a write is its one reply (R56). -/
theorem Underway.complete {s u : State} (h : Underway s u) : Completed s u.complete where
  history := h.history
  replies := ⟨.done, by rw [State.complete_replies, h.replies], nofun⟩
  cfg := h.cfg
  pending := h.pending

variable (s : State)

theorem State.burst_underway : Underway s s.burst := by
  obtain ⟨tx, rx, es, rest, hb⟩ := s.burst_frame
  rw [hb]
  exact ⟨⟨es, rfl⟩, rfl, rfl, rfl⟩

theorem State.resetCore_underway (n : CoreId) (off : Offset) : Underway s (s.resetCore n off) := by
  obtain ⟨h, ls, -, ⟨-, he⟩ | ⟨c, r, ps, -, -, he⟩⟩ := s.resetCore_spec n off <;> rw [he]
  · exact ⟨⟨_, rfl⟩, rfl, rfl, rfl⟩
  · exact ⟨⟨_, List.append_assoc ..⟩, rfl, rfl, rfl⟩

theorem State.writeRstCtrl_completed (n : CoreId) (v : Word) : Completed s (s.writeRstCtrl n v) := by
  by_cases hv : v = 0
  · subst hv
    exact ⟨⟨[], (List.append_nil _).symm⟩, ⟨_, rfl, nofun⟩, rfl, rfl⟩
  · rw [s.writeRstCtrl_of_ne n v hv]
    exact (s.resetCore_underway n _).complete

theorem State.readR40_completed (r : R40Reg) : Completed s (s.readR40 r) := by
  cases hv : s.cfg.variant with
  | base =>
    rw [s.readR40_base hv]
    exact ⟨⟨_, rfl⟩, ⟨_, rfl, nofun⟩, rfl, rfl⟩
  | r40 =>
    rw [s.readR40_r40 hv]
    exact ⟨⟨[], (List.append_nil _).symm⟩, ⟨_, rfl, nofun⟩, rfl, rfl⟩

theorem State.writeR40_completed (r : R40Reg) (v : Word) : Completed s (s.writeR40 r v) := by
  cases hv : s.cfg.variant with
  | base =>
    rw [s.writeR40_base hv]
    exact ⟨⟨_, rfl⟩, ⟨_, rfl, nofun⟩, rfl, rfl⟩
  | r40 =>
    rw [s.writeR40_r40 hv]
    exact ⟨⟨[], (List.append_nil _).symm⟩, ⟨_, rfl, nofun⟩, rfl, rfl⟩

theorem State.writePsw_completed (n : CoreId) (v : Word) : Completed s (s.writePsw n v) := by
  cases hv : s.cfg.variant with
  | base =>
    rw [s.writePsw_base hv]
    exact ⟨⟨_, rfl⟩, ⟨_, rfl, nofun⟩, rfl, rfl⟩
  | r40 =>
    by_cases hff : v = 0x000000FF
    · subst hff
      obtain ⟨r, ps, -, he⟩ := s.writePsw_off hv n
      rw [he]
      exact ⟨⟨_, List.append_assoc ..⟩, ⟨_, rfl, nofun⟩, rfl, rfl⟩
    · rw [s.writePsw_of_ne hv n v hff]
      exact ⟨⟨[], (List.append_nil _).symm⟩, ⟨_, rfl, nofun⟩, rfl, rfl⟩

theorem exec_sWTcr_completed (sz : SpiSize) (v : Word) :
    ∃ t, exec (.sWTcr sz v) s = .next t ∧ Completed s t := by
  refine ⟨_, rfl, ?_⟩
  split
  · obtain ⟨hhistory, hreplies, hcfg, hpending⟩ := s.burst_underway
    exact Underway.complete ⟨hhistory, hreplies, hcfg, hpending⟩
  · exact ⟨⟨[], (List.append_nil _).symm⟩, ⟨_, rfl, nofun⟩, rfl, rfl⟩

/-- Every operation completes: those that log or ask the environment lengthen the history, the others leave it. -/
theorem exec_completed (i : Instr) : ∃ t, exec i s = .next t ∧ Completed s t := by
  cases i with
  | sWTcr sz v => exact exec_sWTcr_completed s sz v
  | cWRstCtrl0 v | cWRstCtrl1 v | cWRstCtrl2 v | cWRstCtrl3 v => exact ⟨_, rfl, s.writeRstCtrl_completed _ v⟩
  | cRPwroffGating | cRPsw0 | cRPsw1 | cRPsw2 | cRPsw3 | cRPswDelay | cRCfgDelay | cRPwrdnCfg
  | cRPwrupCfg0 | cRPwrupCfg1 | cRPwrupCfg2 | cRPwrupCfg3 | cRPwrupCfg4 | cRPwrupCfg5 =>
    exact ⟨_, rfl, s.readR40_completed _⟩
  | cWPsw0 v | cWPsw1 v | cWPsw2 v | cWPsw3 v => exact ⟨_, rfl, s.writePsw_completed _ v⟩
  | cWPwroffGating v | cWPswDelay v | cWCfgDelay v | cWPwrdnCfg v | cWPwrupCfg0 v | cWPwrupCfg1 v | cWPwrupCfg2 v
  | cWPwrupCfg3 v | cWPwrupCfg4 v | cWPwrupCfg5 v => exact ⟨_, rfl, s.writeR40_completed _ v⟩
  | sWFsr | sRTxd | sWRxd | sRUnknown | sWUnknown | cRUnimpDbgExtern | cWUnimpDbgExtern | cRUnimpCnt64Ctrl
  | cWUnimpCnt64Ctrl | cRUnimpCnt64Low | cWUnimpCnt64Low | cRUnimpCnt64High | cWUnimpCnt64High | cRUnknown
  | cWUnknown => exact ⟨_, rfl, ⟨_, rfl⟩, ⟨_, rfl, nofun⟩, rfl, rfl⟩
  | _ => exact ⟨_, rfl, ⟨[], (List.append_nil _).symm⟩, ⟨_, rfl, nofun⟩, rfl, rfl⟩

/-- Settles O13, operation by operation in `exec_completed`. -/
theorem everyOperationCompletes : Obligations.EveryOperationCompletes := by
  intro i s
  obtain ⟨t, he, ⟨es, hes⟩, ⟨r, hr, hnot⟩, hcfg, hpending⟩ := exec_completed s i
  exact ⟨t, es, r, he, hes, hr, hnot, hcfg, hpending⟩

end Sys2Proof.Machine
end

section
/-! SUPPORT. The two blocks share no storage (spec/10_state.md R58; spec/20_memory.md R79): an operation of one does the
same whatever the other holds. -/

namespace Sys2Proof.Machine

variable (s : State)

/-- A lookup does not read block S. -/
theorem State.lookup_setSpi (b : SpiBlock) (n : CoreId) :
    (s.setSpi b).lookup n = ((s.lookup n).1, (s.lookup n).2.setSpi b) := by
  simp only [State.lookup, State.setSpi_script]
  split <;> rfl

/-- A power-on request does not read block S. -/
theorem State.powerOn_setSpi (b : SpiBlock) (n : CoreId) (entry : BitVec 64) (el : Nat) (is64 : Bool) :
    (s.setSpi b).powerOn n entry el is64 = ((s.powerOn n entry el is64).1, (s.powerOn n entry el is64).2.setSpi b) := by
  simp only [State.powerOn, State.setSpi_script]
  split <;> rfl

/-- A power-off request does not read block S. -/
theorem State.powerOff_setSpi (b : SpiBlock) (n : CoreId) :
    (s.setSpi b).powerOff n = ((s.powerOff n).1, (s.powerOff n).2.setSpi b) := by
  simp only [State.powerOff, State.setSpi_script]
  split <;> rfl

/-- reset_core(n) does not read block S. -/
theorem State.resetCore_setSpi (b : SpiBlock) (n : CoreId) (off : Offset) :
    (s.setSpi b).resetCore n off = (s.resetCore n off).setSpi b := by
  simp only [State.resetCore, s.lookup_setSpi, State.powerOn_setSpi, State.setSpi_cpucfg]
  split
  · rfl
  · split <;> rfl

/-- power_switch(n, off) does not read block S. -/
theorem State.powerSwitchOff_setSpi (b : SpiBlock) (n : CoreId) (off : Offset) :
    (s.setSpi b).powerSwitchOff n off = (s.powerSwitchOff n off).setSpi b := by
  simp only [State.powerSwitchOff, s.powerOff_setSpi]
  split <;> rfl

/-- A reset-control write does not read block S. -/
theorem State.writeRstCtrl_setSpi (b : SpiBlock) (n : CoreId) (v : Word) :
    (s.setSpi b).writeRstCtrl n v = (s.writeRstCtrl n v).setSpi b := by
  simp only [State.writeRstCtrl, State.setSpi_cfg, s.resetCore_setSpi]
  split <;> rfl

/-- A read of an r40 slot does not read block S. -/
theorem State.readR40_setSpi (b : SpiBlock) (r : R40Reg) : (s.setSpi b).readR40 r = (s.readR40 r).setSpi b := by
  simp only [State.readR40, State.setSpi_cfg]
  split <;> rfl

/-- A write of an r40 slot does not read block S. -/
theorem State.writeR40_setSpi (b : SpiBlock) (r : R40Reg) (v : Word) :
    (s.setSpi b).writeR40 r v = (s.writeR40 r v).setSpi b := by
  simp only [State.writeR40, State.setSpi_cfg]
  split <;> rfl

/-- A write of a power switch's slot does not read block S. -/
theorem State.writePsw_setSpi (b : SpiBlock) (n : CoreId) (v : Word) :
    (s.setSpi b).writePsw n v = (s.writePsw n v).setSpi b := by
  have hstore : (s.setSpi b).storeR40 (.psw n) v = (s.storeR40 (.psw n) v).setSpi b := rfl
  simp only [State.writePsw, State.setSpi_cfg, hstore, State.powerSwitchOff_setSpi]
  split
  · split
    · rfl
    · split <;> rfl
  · rfl

/-- The same state with other contents in the block that `u` is not. -/
def State.withOther (u : Block) (b : SpiBlock) (c : CpucfgBlock) : State :=
  match u with
  | .spi => s.setCpucfg c
  | .cpucfg => s.setSpi b

/-- A TCR write does not read block C. -/
theorem exec_sWTcr_setCpucfg (c : CpucfgBlock) (sz : SpiSize) (v : Word) : ∃ t, exec (.sWTcr sz v) s = .next t ∧
    exec (.sWTcr sz v) (s.setCpucfg c) = .next (t.setCpucfg c) := by
  refine ⟨_, rfl, congrArg Host.Outcome.next ?_⟩
  rw [s.burst_setCpucfg, State.setCpucfg_cfg]
  split <;> rfl

/-- No operation does anything that depends on the contents of the block it does not belong to. -/
theorem exec_withOther (b : SpiBlock) (c : CpucfgBlock) (i : Instr) : ∃ t, exec i s = .next t ∧
    exec i (s.withOther (blockOf i) b c) = .next (t.withOther (blockOf i) b c) := by
  cases i with
  | sWTcr sz v => exact exec_sWTcr_setCpucfg s c sz v
  | cWRstCtrl0 v | cWRstCtrl1 v | cWRstCtrl2 v | cWRstCtrl3 v =>
    exact ⟨_, rfl, congrArg _ (s.writeRstCtrl_setSpi b _ v)⟩
  | cRPwroffGating | cRPsw0 | cRPsw1 | cRPsw2 | cRPsw3 | cRPswDelay | cRCfgDelay | cRPwrdnCfg
  | cRPwrupCfg0 | cRPwrupCfg1 | cRPwrupCfg2 | cRPwrupCfg3 | cRPwrupCfg4 | cRPwrupCfg5 =>
    exact ⟨_, rfl, congrArg _ (s.readR40_setSpi b _)⟩
  | cWPsw0 v | cWPsw1 v | cWPsw2 v | cWPsw3 v => exact ⟨_, rfl, congrArg _ (s.writePsw_setSpi b _ v)⟩
  | cWPwroffGating v | cWPswDelay v | cWCfgDelay v | cWPwrdnCfg v | cWPwrupCfg0 v | cWPwrupCfg1 v | cWPwrupCfg2 v
  | cWPwrupCfg3 v | cWPwrupCfg4 v | cWPwrupCfg5 v => exact ⟨_, rfl, congrArg _ (s.writeR40_setSpi b _ v)⟩
  | _ => exact ⟨_, rfl, rfl⟩

/-- An r40 write is an operation of block C. -/
theorem blockOf_r40WriteInstr (v : Word) (r : R40Reg) : blockOf (r40WriteInstr v r) = .cpucfg := by
  unfold r40WriteInstr
  split <;> rfl

variable {s} {i : Instr}

/-- An operation of block C does not change block S. -/
theorem SpiChange.eq_of_cpucfg {b : SpiBlock} (h : SpiChange s i b) (hi : blockOf i = .cpucfg) : b = s.spi := by
  cases h with
  | keep => rfl
  | gcr | tcr | ier | isr | fcr | wcr | ccr | mbc | mtc | bcc | dmactl | txd | rxd => nomatch hi

/-- An operation of block S does not change block C. -/
theorem CpucfgChange.eq_of_spi {c : CpucfgBlock} (h : CpucfgChange s i c) (hi : blockOf i = .spi) : c = s.cpucfg := by
  cases h with
  | keep => rfl
  | genCtrl | superStandby | entryAddr => nomatch hi
  | r40 hv r v =>
    rw [blockOf_r40WriteInstr] at hi
    nomatch hi

/-- Settles O52: the frame is that each listed change belongs to an operation of its own block; the noninterference runs
the operation with other contents in the other block. -/
theorem blocksShareNoStorage : Obligations.BlocksShareNoStorage := by
  refine fun i s => ⟨fun hi c => ?_, fun hi b => ?_⟩
  · obtain ⟨t, he, hother⟩ := exec_withOther s s.spi c i
    rw [hi] at hother
    exact ⟨t, he, (StorageStep.of_exec he).cpucfg.eq_of_spi hi, hother⟩
  · obtain ⟨t, he, hother⟩ := exec_withOther s b s.cpucfg i
    rw [hi] at hother
    exact ⟨t, he, (StorageStep.of_exec he).spi.eq_of_cpucfg hi, hother⟩

end Sys2Proof.Machine
end

section
/-! SUPPORT. The side effects of a read (spec/20_memory.md R71; spec/41_spi_registers.md R120): the pop of RXD, and the
diagnostic of a read that is rejected. -/

namespace Sys2Proof.Machine

/-- The reads that are logged: of a write-only register, of an offset without a register, of an unimplemented register,
and in the base variant of an r40 slot (R146, R149, R199, R201, R218). -/
def LoggedRead (s : State) (i : Instr) : Prop :=
  (∃ sz, i = .sRTxd sz) ∨ (∃ sz off, i = .sRUnknown sz off) ∨ (∃ off, i = .cRUnknown off) ∨
    i = .cRUnimpDbgExtern ∨ i = .cRUnimpCnt64Ctrl ∨ i = .cRUnimpCnt64Low ∨ i = .cRUnimpCnt64High ∨
    (s.cfg.variant = .base ∧ ∃ r, i = r40ReadInstr r)

/-- What a read `i` does beside its reply and the pop of RXD: nothing, or one diagnostic if it is a logged read. -/
structure ReadStep (s : State) (i : Instr) (t : State) : Prop where
  script : t.script = s.script
  history : t.history = s.history ∨
    LoggedRead s i ∧ ∃ u code off, t.history = s.history ++ [.diag u code off .none]

/-- A read of an r40 slot is logged in the base variant only. -/
theorem State.readR40_readStep (s : State) (r : R40Reg) : ReadStep s (r40ReadInstr r) (s.readR40 r) := by
  cases hv : s.cfg.variant with
  | r40 =>
    rw [s.readR40_r40 hv]
    exact ⟨rfl, .inl rfl⟩
  | base =>
    have hlogged : LoggedRead s (r40ReadInstr r) :=
      .inr (.inr (.inr (.inr (.inr (.inr (.inr ⟨hv, r, rfl⟩))))))
    rw [s.readR40_base hv]
    exact ⟨rfl, .inr ⟨hlogged, _, _, _, rfl⟩⟩

/-- What every read does beside its reply and the pop of RXD. -/
theorem exec_readStep {i : Instr} (hi : dirOf i = .read) (s : State) : ∃ t, exec i s = .next t ∧ ReadStep s i t := by
  cases i with
  | sRTxd | sRUnknown | cRUnknown | cRUnimpDbgExtern | cRUnimpCnt64Ctrl | cRUnimpCnt64Low | cRUnimpCnt64High =>
    exact ⟨_, rfl, rfl, .inr ⟨by simp [LoggedRead], _, _, _, rfl⟩⟩
  | cRPwroffGating => exact ⟨_, rfl, s.readR40_readStep .pwroffGating⟩
  | cRPsw0 => exact ⟨_, rfl, s.readR40_readStep (.psw 0)⟩
  | cRPsw1 => exact ⟨_, rfl, s.readR40_readStep (.psw 1)⟩
  | cRPsw2 => exact ⟨_, rfl, s.readR40_readStep (.psw 2)⟩
  | cRPsw3 => exact ⟨_, rfl, s.readR40_readStep (.psw 3)⟩
  | cRPswDelay => exact ⟨_, rfl, s.readR40_readStep .pswDelay⟩
  | cRCfgDelay => exact ⟨_, rfl, s.readR40_readStep .cfgDelay⟩
  | cRPwrdnCfg => exact ⟨_, rfl, s.readR40_readStep .pwrdnCfg⟩
  | cRPwrupCfg0 => exact ⟨_, rfl, s.readR40_readStep (.pwrupCfg 0)⟩
  | cRPwrupCfg1 => exact ⟨_, rfl, s.readR40_readStep (.pwrupCfg 1)⟩
  | cRPwrupCfg2 => exact ⟨_, rfl, s.readR40_readStep (.pwrupCfg 2)⟩
  | cRPwrupCfg3 => exact ⟨_, rfl, s.readR40_readStep (.pwrupCfg 3)⟩
  | cRPwrupCfg4 => exact ⟨_, rfl, s.readR40_readStep (.pwrupCfg 4)⟩
  | cRPwrupCfg5 => exact ⟨_, rfl, s.readR40_readStep (.pwrupCfg 5)⟩
  | sRGcr | sRTcr | sRIer | sRIsr | sRFcr | sRFsr | sRWcr | sRCcr | sRMbc | sRMtc | sRBcc | sRDmactl | sRRxd
  | cRRstCtrl0 | cRRstCtrl1 | cRRstCtrl2 | cRRstCtrl3 | cRCtrl0 | cRCtrl1 | cRCtrl2 | cRCtrl3
  | cRStatus0 | cRStatus1 | cRStatus2 | cRStatus3 | cRGenCtrl | cRSuperStandby | cREntryAddr =>
    exact ⟨_, rfl, rfl, .inl rfl⟩
  | _ => nomatch hi

/-- An r40 write is no read. -/
theorem dirOf_r40WriteInstr (v : Word) (r : R40Reg) : dirOf (r40WriteInstr v r) = .write := by
  unfold r40WriteInstr
  split <;> rfl

variable {s : State} {i : Instr}

/-- Of the reads only that of RXD changes block S. -/
theorem SpiChange.eq_of_read {b : SpiBlock} (h : SpiChange s i b) (hi : dirOf i = .read)
    (hrxd : ∀ sz, i ≠ .sRRxd sz) : b = s.spi := by
  cases h with
  | keep => rfl
  | rxd sz => exact absurd rfl (hrxd sz)
  | gcr | tcr | ier | isr | fcr | wcr | ccr | mbc | mtc | bcc | dmactl | txd => nomatch hi

/-- No read changes block C. -/
theorem CpucfgChange.eq_of_read {c : CpucfgBlock} (h : CpucfgChange s i c) (hi : dirOf i = .read) : c = s.cpucfg := by
  cases h with
  | keep => rfl
  | genCtrl | superStandby | entryAddr => nomatch hi
  | r40 hv r v =>
    rw [dirOf_r40WriteInstr] at hi
    nomatch hi

/-- Settles O57: a read of RXD pops and does nothing else; every other read changes no block, and logs if at all one
diagnostic. -/
theorem readsHaveNoOtherSideEffects : Obligations.ReadsHaveNoOtherSideEffects := by
  intro i s hi
  by_cases hrxd : ∃ sz, i = .sRRxd sz
  · obtain ⟨sz, rfl⟩ := hrxd
    exact ⟨_, [], rfl, (List.append_nil _).symm, nofun, rfl, rfl, fun h => absurd rfl (h sz), fun _ _ => ⟨rfl, rfl⟩,
      fun h => absurd rfl h⟩
  · obtain ⟨t, he, hscript, hhistory⟩ := exec_readStep hi s
    have hspi : t.spi = s.spi := (StorageStep.of_exec he).spi.eq_of_read hi (not_exists.mp hrxd)
    have hcpucfg : t.cpucfg = s.cpucfg := (StorageStep.of_exec he).cpucfg.eq_of_read hi
    have hpop : ∀ {p : Prop}, ∀ sz, i = .sRRxd sz → p := fun sz h => absurd ⟨sz, h⟩ hrxd
    obtain hsame | ⟨hlogged, u, code, off, hdiag⟩ := hhistory
    · exact ⟨t, [], he, by rw [hsame, List.append_nil], nofun, hscript, hcpucfg, fun _ => hspi, hpop,
        fun h => absurd rfl h⟩
    · exact ⟨t, _, he, hdiag, List.forall_mem_singleton.mpr rfl, hscript, hcpucfg, fun _ => hspi, hpop,
        fun _ => hlogged⟩

end Sys2Proof.Machine
end

section
/-! SUPPORT. The fields of a descriptor as numbers (spec/30_encoding.md R80 to R85): what they are cut from, and that
with RES = 00 they make up the descriptor. -/

namespace Sys2Proof.Machine

variable (d : Descriptor)

theorem descSize_eq : descSize d = d.toNat / 2048 % 4 + 1 := by
  simp [descSize, BitVec.extractLsb'_toNat, Nat.shiftRight_eq_div_pow]

theorem descOff_toNat : (descOff d).toNat = d.toNat % 1024 := by
  simp [descOff, BitVec.extractLsb'_toNat]

theorem descReserved_eq_zero_iff : descReserved d = 0 ↔ d.toNat / 8192 % 4 = 0 := by
  simp [descReserved, ← BitVec.toNat_inj, BitVec.extractLsb'_toNat, Nat.shiftRight_eq_div_pow]

theorem descUnit_eq_spi_iff : descUnit d = .spi ↔ d.toNat < 32768 := by
  have hd := d.isLt
  simp only [descUnit, BitVec.getLsbD, Nat.testBit_eq_decide_div_mod_eq, decide_eq_true_eq]
  split <;> simp only [reduceCtorEq, true_iff, false_iff] <;> omega

theorem descDir_eq_write_iff : descDir d = .write ↔ d.getLsbD 10 = true := by
  unfold descDir
  split <;> simp_all

theorem getLsbD_ten_iff : d.getLsbD 10 = true ↔ d.toNat / 1024 % 2 = 1 := by
  rw [BitVec.getLsbD, Nat.testBit_eq_decide_div_mod_eq, decide_eq_true_eq]

/-- With RES = 00 the other four fields make up the descriptor (R80). -/
theorem mkDescriptor_fields {d : Descriptor} (hres : descReserved d = 0) :
    mkDescriptor (descUnit d) (BitVec.ofNat 2 (descSize d - 1)) (descDir d) (descOff d) = d := by
  have hsize := descSize_eq d
  have hoff := descOff_toNat d
  have hhead : descriptorHead (descUnit d) (descDir d) (descSize d) + (descOff d).toNat = d.toNat := by
    have hd := d.isLt
    have hresNat := (descReserved_eq_zero_iff d).mp hres
    have hunit := descUnit_eq_spi_iff d
    have hdir := (descDir_eq_write_iff d).trans (getLsbD_ten_iff d)
    cases hu : descUnit d <;> cases hw : descDir d <;>
      simp only [hu, hw, reduceCtorEq, true_iff, false_iff] at hunit hdir <;>
      simp only [descriptorHead, reduceCtorEq, if_true, if_false] <;> omega
  have h := mkDescriptor_eq_ofNat (descUnit d) (descDir d) (size := descSize d) (by omega) (descOff d).isLt
  rwa [BitVec.ofNat_toNat, BitVec.setWidth_eq, hhead, BitVec.ofNat_toNat, BitVec.setWidth_eq] at h

end Sys2Proof.Machine
end

section
/-! SUPPORT. The register maps (spec/10_state.md R23, R42, R45; spec/43_cpucfg.md R203): an offset names at most one
register of the active variant, and every register of it is found at its own offset. -/

namespace Sys2Proof

/-- A list searched for a key that one member has finds that member. -/
theorem find?_key_eq_some {α κ : Type} [DecidableEq κ] (key : α → κ) {l : List α} {r : α} (hr : r ∈ l)
    (hinj : ∀ x ∈ l, key x = key r → x = r) : (l.find? fun x => key x == key r) = some r := by
  cases hx : l.find? fun x => key x == key r with
  | none => exact absurd (List.find?_eq_none.mp hx r hr) (by simp)
  | some x => rw [hinj x (List.mem_of_find?_eq_some hx) (by simpa using List.find?_some hx)]

theorem SpiReg.mem_all (r : SpiReg) : r ∈ SpiReg.all := by
  cases r <;> decide

/-- A register of S is aligned to every legal access size. -/
theorem SpiReg.offset_mod_bytes (r : SpiReg) (sz : SpiSize) : r.offset.toNat % sz.bytes = 0 := by
  cases r <;> cases sz <;> decide

/-- An offset that no row of R88 has names no register. -/
theorem SpiReg.ofOffset_eq_none {off : Offset} (h : off.toNat ∉ SpiReg.all.map (·.offset.toNat)) :
    SpiReg.ofOffset off = none := by
  refine List.find?_eq_none.mpr fun r hr he => h (List.mem_map.mpr ⟨r, hr, ?_⟩)
  rw [eq_of_beq he]

/-- The registers of C that both variants have, at the same offsets (R42, R89, R91). -/
def CpucfgReg.fixed : List CpucfgReg :=
  CpucfgReg.common ++ CpucfgReg.unimplemented

/-- The active variant has the register (R45, R180). -/
def CpucfgReg.present (cfg : Config) : CpucfgReg → Bool
  | .r40 _ => isR40 cfg
  | _ => true

/-- A register of C is one of both variants or an r40 register. -/
theorem CpucfgReg.mem_fixed_or_r40 (r : CpucfgReg) : r ∈ CpucfgReg.fixed ∨ ∃ x, r = .r40 x := by
  cases r with
  | r40 x => exact .inr ⟨x, rfl⟩
  | rstCtrl n | ctrl n | status n => exact .inl (by revert n; decide)
  | unimp u => exact .inl (by cases u <;> decide)
  | genCtrl | superStandby | entryAddr => exact .inl (by decide)

/-- No r40 register is one of both variants. -/
theorem CpucfgReg.r40_notMem_fixed (x : R40Reg) : CpucfgReg.r40 x ∉ CpucfgReg.fixed := by
  simp [CpucfgReg.fixed, CpucfgReg.common, CpucfgReg.unimplemented]

/-- Every variant has the registers of both variants. -/
theorem CpucfgReg.present_of_mem_fixed {r : CpucfgReg} (hr : r ∈ CpucfgReg.fixed) (cfg : Config) :
    r.present cfg = true := by
  cases r with
  | r40 x => exact absurd hr (r40_notMem_fixed x)
  | _ => rfl

theorem CpucfgReg.mem_cpucfgMap_iff (cfg : Config) (r : CpucfgReg) :
    r ∈ cpucfgMap cfg ↔ r.present cfg = true := by
  have hmap : r ∈ cpucfgMap cfg ↔ r ∈ CpucfgReg.fixed ∨ cfg.variant = .r40 ∧ ∃ x, CpucfgReg.r40 x = r := by
    by_cases hv : cfg.variant = .r40 <;> simp [cpucfgMap, CpucfgReg.fixed, hv, R40Reg.mem_all, or_assoc, or_comm]
  rw [hmap]
  obtain hr | ⟨x, rfl⟩ := r.mem_fixed_or_r40
  · exact iff_of_true (.inl hr) (present_of_mem_fixed hr cfg)
  · simp [CpucfgReg.present, isR40, r40_notMem_fixed]

/-- The offset of a register of both variants does not depend on the configuration. -/
theorem CpucfgReg.offset_of_mem_fixed {r : CpucfgReg} (hr : r ∈ CpucfgReg.fixed) (cfg cfg' : Config) :
    r.offset cfg = r.offset cfg' := by
  cases r with
  | r40 x => exact absurd hr (r40_notMem_fixed x)
  | _ => rfl

/-- The registers of both variants stand at different offsets. -/
theorem CpucfgReg.eq_of_offset_of_mem_fixed {cfg : Config} {r r' : CpucfgReg} (hr : r ∈ CpucfgReg.fixed)
    (hr' : r' ∈ CpucfgReg.fixed) (h : r.offset cfg = r'.offset cfg) : r = r' := by
  have hall : ∀ x ∈ CpucfgReg.fixed, ∀ y ∈ CpucfgReg.fixed,
      x.offset standardConfig = y.offset standardConfig → x = y := by decide
  rw [offset_of_mem_fixed hr cfg standardConfig, offset_of_mem_fixed hr' cfg standardConfig] at h
  exact hall r hr r' hr' h

/-- The registers of both variants are aligned and outside the fourteen slots of the r40 registers. -/
theorem CpucfgReg.offset_range_of_mem_fixed {r : CpucfgReg} (hr : r ∈ CpucfgReg.fixed) (cfg : Config) :
    (r.offset cfg).toNat % 4 = 0 ∧ ¬(0x140 ≤ (r.offset cfg).toNat ∧ (r.offset cfg).toNat ≤ 0x174) := by
  have hall : ∀ x ∈ CpucfgReg.fixed, (x.offset standardConfig).toNat % 4 = 0 ∧
      ¬(0x140 ≤ (x.offset standardConfig).toNat ∧ (x.offset standardConfig).toNat ≤ 0x174) := by decide
  rw [offset_of_mem_fixed hr cfg standardConfig]
  exact hall r hr

section Layout

variable {cfg : Config} (hl : layoutOk cfg.r40Layout = true)
include hl

/-- The r40 registers stand in the fourteen slots (R203). -/
theorem r40Offset_range (x : R40Reg) : 0x140 ≤ (r40Offset cfg.r40Layout x).toNat ∧
    (r40Offset cfg.r40Layout x).toNat ≤ 0x174 ∧ (r40Offset cfg.r40Layout x).toNat % 4 = 0 := by
  have hslot := idxOf_lt_of_layoutOk hl x
  rw [r40Offset_toNat hl]
  omega

/-- The registers of C are aligned to the only legal access size (R69). -/
theorem CpucfgReg.offset_mod_four (r : CpucfgReg) : (r.offset cfg).toNat % 4 = 0 := by
  obtain hr | ⟨x, rfl⟩ := r.mem_fixed_or_r40
  · obtain ⟨halign, -⟩ := offset_range_of_mem_fixed hr cfg
    exact halign
  · obtain ⟨-, -, halign⟩ := r40Offset_range hl x
    exact halign

/-- Under an admissible layout no two registers of C share an offset. -/
theorem CpucfgReg.offset_injective {r r' : CpucfgReg} (h : r.offset cfg = r'.offset cfg) : r = r' := by
  have hne : ∀ (x : R40Reg) {y : CpucfgReg}, y ∈ CpucfgReg.fixed → (CpucfgReg.r40 x).offset cfg ≠ y.offset cfg := by
    intro x y hy he
    obtain ⟨hlo, hhi, -⟩ := r40Offset_range hl x
    exact (offset_range_of_mem_fixed hy cfg).2 (he ▸ ⟨hlo, hhi⟩)
  obtain hr | ⟨x, rfl⟩ := r.mem_fixed_or_r40 <;> obtain hr' | ⟨x', rfl⟩ := r'.mem_fixed_or_r40
  · exact eq_of_offset_of_mem_fixed hr hr' h
  · exact absurd h.symm (hne x' hr)
  · exact absurd h (hne x hr')
  · exact congrArg CpucfgReg.r40 (r40Offset_injective hl h)

/-- A register of the active variant is found at its own offset. -/
theorem CpucfgReg.ofOffset_offset {r : CpucfgReg} (hr : r.present cfg = true) :
    CpucfgReg.ofOffset cfg (r.offset cfg) = some r :=
  find?_key_eq_some (CpucfgReg.offset cfg) ((mem_cpucfgMap_iff cfg r).mpr hr) fun _ _ => offset_injective hl

/-- An offset of no register of both variants, and in the r40 variant outside the slots, names no register. -/
theorem CpucfgReg.ofOffset_eq_none {off : Offset}
    (hfixed : off.toNat ∉ CpucfgReg.fixed.map fun r => (r.offset cfg).toNat)
    (hslot : ¬(cfg.variant = .r40 ∧ 0x140 ≤ off.toNat ∧ off.toNat ≤ 0x174)) : CpucfgReg.ofOffset cfg off = none := by
  refine List.find?_eq_none.mpr fun r hr he => ?_
  obtain rfl := eq_of_beq he
  obtain hr' | ⟨x, rfl⟩ := r.mem_fixed_or_r40
  · exact hfixed (List.mem_map_of_mem hr')
  · have hv : cfg.variant = .r40 := eq_of_beq ((mem_cpucfgMap_iff cfg _).mp hr)
    obtain ⟨hlo, hhi, -⟩ := r40Offset_range hl x
    exact hslot ⟨hv, hlo, hhi⟩

end Layout

/-- A row of R89 is tried first, so it is found at its own offset under any layout (R87 step 3c). -/
theorem CpucfgReg.ofOffset_offset_of_mem_common {r : CpucfgReg} (hr : r ∈ CpucfgReg.common) (cfg : Config) :
    CpucfgReg.ofOffset cfg (r.offset cfg) = some r := by
  have hfixed : ∀ {x}, x ∈ CpucfgReg.common → x ∈ CpucfgReg.fixed := List.mem_append_left _
  have hfind := find?_key_eq_some (CpucfgReg.offset cfg) hr
    fun x hx h => eq_of_offset_of_mem_fixed (hfixed hx) (hfixed hr) h
  rw [CpucfgReg.ofOffset, cpucfgMap, List.append_assoc, List.find?_append, hfind, Option.some_or]

end Sys2Proof
end

section
/-! SUPPORT. The decoder and the encoder row by row (spec/30_encoding.md R82 to R91): when a block accepts an access and
when it refuses one, which operation each row of the maps gives, and what encodes that operation. -/

namespace Sys2Proof

open Sys2Proof.Machine

theorem SpiSize.ofBytes_bytes (sz : SpiSize) : SpiSize.ofBytes sz.bytes = some sz := by
  cases sz <;> rfl

/-- The legal sizes of S are 1, 2 and 4 (R65). -/
theorem SpiSize.ofBytes_eq_some_iff {n : Nat} {sz : SpiSize} : SpiSize.ofBytes n = some sz ↔ sz.bytes = n := by
  refine ⟨fun h => ?_, fun h => h ▸ ofBytes_bytes sz⟩
  unfold SpiSize.ofBytes at h
  split at h <;> cases h <;> rfl

theorem SpiSize.field_eq (sz : SpiSize) : sz.field = BitVec.ofNat 2 (sz.bytes - 1) := by
  cases sz <;> rfl

theorem SpiSize.field_toNat (sz : SpiSize) : sz.field.toNat + 1 = sz.bytes := by
  cases sz <;> rfl

theorem SpiSize.bytes_range (sz : SpiSize) : 1 ≤ sz.bytes ∧ sz.bytes ≤ 4 := by
  cases sz <;> decide

theorem sizeOk_iff {cfg : Config} {sz : SpiSize} :
    sizeOk cfg sz = true ↔ sz = .b4 ∨ cfg.subwordMode = .exactOffset := by
  simp [sizeOk]

/-! The operation of an offset: that of its row, or the unknown-offset operation (R87 steps 2d, 2e and 3c to 3f). -/

section Offsets

variable (cfg : Config) (sz : SpiSize) (off : Offset) (data : Word)

theorem spiInstr_read : spiInstr .read sz off data =
    (SpiReg.ofOffset off).elim (.sRUnknown sz off) (spiReadInstr sz) := by
  cases h : SpiReg.ofOffset off <;> simp only [spiInstr, h, Option.elim]

theorem spiInstr_write : spiInstr .write sz off data =
    (SpiReg.ofOffset off).elim (.sWUnknown sz off data) (spiWriteInstr sz data) := by
  cases h : SpiReg.ofOffset off <;> simp only [spiInstr, h, Option.elim]

theorem cpucfgInstr_read : cpucfgInstr cfg .read off data =
    (CpucfgReg.ofOffset cfg off).elim (.cRUnknown off) cpucfgReadInstr := by
  cases h : CpucfgReg.ofOffset cfg off <;> simp only [cpucfgInstr, h, Option.elim]

theorem cpucfgInstr_write : cpucfgInstr cfg .write off data =
    (CpucfgReg.ofOffset cfg off).elim (.cWUnknown off data) (cpucfgWriteInstr data) := by
  cases h : CpucfgReg.ofOffset cfg off <;> simp only [cpucfgInstr, h, Option.elim]

end Offsets

section Blocks

variable (cfg : Config) (dir : Dir) (off : Offset) (data : Word)

/-- An access to S of a legal size: the sub-word mode decides first, then the alignment (R87 step 2). -/
theorem decodeSpi_bytes (sz : SpiSize) : decodeSpi cfg sz.bytes dir off data =
    if sizeOk cfg sz = false then .error .badSize
    else if off.toNat % sz.bytes ≠ 0 then .error .misaligned
    else .ok (spiInstr dir sz off (lowBytes sz data)) := by
  simp only [decodeSpi, SpiSize.ofBytes_bytes]

/-- S accepts the accesses of a legal size that the sub-word mode lets through and that are aligned. -/
theorem decodeSpi_eq_ok_iff {size : Nat} {i : Instr} : decodeSpi cfg size dir off data = .ok i ↔
    ∃ sz : SpiSize, sz.bytes = size ∧ sizeOk cfg sz = true ∧ off.toNat % sz.bytes = 0 ∧
      spiInstr dir sz off (lowBytes sz data) = i := by
  constructor
  · intro h
    cases hsz : SpiSize.ofBytes size with
    | none => simp [decodeSpi, hsz] at h
    | some sz =>
      obtain rfl := SpiSize.ofBytes_eq_some_iff.mp hsz
      rw [decodeSpi_bytes] at h
      split at h
      · cases h
      · next hok =>
        split at h
        · cases h
        · next halign =>
          exact ⟨sz, rfl, Bool.eq_true_of_not_eq_false hok, not_not.mp halign, Except.ok.inj h⟩
  · rintro ⟨sz, rfl, hok, halign, rfl⟩
    simp [decodeSpi_bytes, hok, halign]

/-- C accepts the aligned accesses of 4 bytes (R87 step 3). -/
theorem decodeCpucfg_eq_ok_iff {size : Nat} {i : Instr} : decodeCpucfg cfg size dir off data = .ok i ↔
    size = 4 ∧ off.toNat % 4 = 0 ∧ cpucfgInstr cfg dir off data = i := by
  unfold decodeCpucfg
  split
  · simp_all
  · split <;> simp_all

end Blocks

/-- The data operand that decode cuts from an access, as a number (R86). -/
theorem lowBytes_toNat (sz : SpiSize) (data : Word) :
    (lowBytes sz data).toNat = data.toNat % 2 ^ (8 * sz.bytes) := by
  have hle := Nat.mod_le data.toNat (2 ^ (8 * sz.bytes))
  rw [lowBytes_eq_sliceLow, sliceLow, BitVec.toNat_ofNat, Nat.mod_eq_of_lt (hle.trans_lt data.isLt)]

section Rows

variable (cfg : Config)

theorem encode_spiReadInstr (sz : SpiSize) (r : SpiReg) : encode cfg (spiReadInstr sz r) = spiRead sz r.offset := by
  cases r <;> rfl

theorem encode_spiWriteInstr (sz : SpiSize) (data : Word) (r : SpiReg) :
    encode cfg (spiWriteInstr sz data r) = spiWrite sz r.offset data := by
  cases r <;> rfl

theorem wf_spiReadInstr (sz : SpiSize) (r : SpiReg) : (spiReadInstr sz r).wf cfg = sizeOk cfg sz := by
  cases r <;> rfl

theorem wf_spiWriteInstr (sz : SpiSize) (data : Word) (r : SpiReg) :
    (spiWriteInstr sz data r).wf cfg = (sizeOk cfg sz && dataFits sz data) := by
  cases r <;> rfl

theorem encode_wf_r40ReadInstr (x : R40Reg) : encode cfg (r40ReadInstr x) =
    cpucfgRead (r40Offset cfg.r40Layout x) ∧ (r40ReadInstr x).wf cfg = isR40 cfg := by
  unfold r40ReadInstr
  split <;> exact ⟨rfl, rfl⟩

/-- The read of a row of C encodes as a read at the row's offset, and exists where the active variant has the row. -/
theorem encode_wf_cpucfgReadInstr (r : CpucfgReg) : encode cfg (cpucfgReadInstr r) =
    cpucfgRead (r.offset cfg) ∧ (cpucfgReadInstr r).wf cfg = r.present cfg := by
  cases r with
  | r40 x => exact encode_wf_r40ReadInstr cfg x
  | rstCtrl n | ctrl n | status n => fin_cases n <;> exact ⟨rfl, rfl⟩
  | unimp u => cases u <;> exact ⟨rfl, rfl⟩
  | genCtrl | superStandby | entryAddr => exact ⟨rfl, rfl⟩

theorem encode_wf_r40WriteInstr (data : Word) (x : R40Reg) : encode cfg (r40WriteInstr data x) =
    cpucfgWrite (r40Offset cfg.r40Layout x) data ∧ (r40WriteInstr data x).wf cfg = isR40 cfg := by
  unfold r40WriteInstr
  split <;> exact ⟨rfl, rfl⟩

/-- The write of a row of C encodes as a write at the row's offset, and exists where the active variant has the row. -/
theorem encode_wf_cpucfgWriteInstr (data : Word) (r : CpucfgReg) : encode cfg (cpucfgWriteInstr data r) =
    cpucfgWrite (r.offset cfg) data ∧ (cpucfgWriteInstr data r).wf cfg = r.present cfg := by
  cases r with
  | r40 x => exact encode_wf_r40WriteInstr cfg data x
  | rstCtrl n | ctrl n | status n => fin_cases n <;> exact ⟨rfl, rfl⟩
  | unimp u => cases u <;> exact ⟨rfl, rfl⟩
  | genCtrl | superStandby | entryAddr => exact ⟨rfl, rfl⟩

variable {cfg} {sz : SpiSize} {off : Offset} {data : Word}

/-- A read that S accepts is well formed and encodes back to its size and offset. -/
theorem spiInstr_read_spec (hok : sizeOk cfg sz = true) (halign : off.toNat % sz.bytes = 0) (data : Word) :
    encode cfg (spiInstr .read sz off data) = spiRead sz off ∧ (spiInstr .read sz off data).wf cfg = true := by
  rw [spiInstr_read]
  cases hr : SpiReg.ofOffset off with
  | none => exact ⟨rfl, by simp [Instr.wf, spiUnknownOk, hok, halign, hr]⟩
  | some r => exact ⟨SpiReg.offset_of_ofOffset hr ▸ encode_spiReadInstr .., (wf_spiReadInstr ..).trans hok⟩

/-- A write that S accepts is well formed and encodes back to its size, offset and data. -/
theorem spiInstr_write_spec (hok : sizeOk cfg sz = true) (halign : off.toNat % sz.bytes = 0)
    (hdata : dataFits sz data = true) :
    encode cfg (spiInstr .write sz off data) = spiWrite sz off data ∧ (spiInstr .write sz off data).wf cfg = true := by
  rw [spiInstr_write]
  cases hr : SpiReg.ofOffset off with
  | none => exact ⟨rfl, by simp [Instr.wf, spiUnknownOk, hok, halign, hdata, hr]⟩
  | some r =>
    have hboth : (sizeOk cfg sz && dataFits sz data) = true := Bool.and_eq_true_iff.mpr ⟨hok, hdata⟩
    exact ⟨SpiReg.offset_of_ofOffset hr ▸ encode_spiWriteInstr .., (wf_spiWriteInstr ..).trans hboth⟩

/-- A read that C accepts is well formed and encodes back to its offset. -/
theorem cpucfgInstr_read_spec (halign : off.toNat % 4 = 0) (data : Word) :
    encode cfg (cpucfgInstr cfg .read off data) = cpucfgRead off ∧
      (cpucfgInstr cfg .read off data).wf cfg = true := by
  rw [cpucfgInstr_read]
  cases hr : CpucfgReg.ofOffset cfg off with
  | none => exact ⟨rfl, by simp [Instr.wf, cpucfgUnknownOk, halign, hr]⟩
  | some r =>
    obtain ⟨henc, hwf⟩ := encode_wf_cpucfgReadInstr cfg r
    rw [CpucfgReg.offset_of_ofOffset hr] at henc
    exact ⟨henc, hwf.trans ((CpucfgReg.mem_cpucfgMap_iff cfg r).mp (CpucfgReg.mem_map_of_ofOffset hr))⟩

/-- A write that C accepts is well formed and encodes back to its offset and data. -/
theorem cpucfgInstr_write_spec (halign : off.toNat % 4 = 0) (data : Word) :
    encode cfg (cpucfgInstr cfg .write off data) = cpucfgWrite off data ∧
      (cpucfgInstr cfg .write off data).wf cfg = true := by
  rw [cpucfgInstr_write]
  cases hr : CpucfgReg.ofOffset cfg off with
  | none => exact ⟨rfl, by simp [Instr.wf, cpucfgUnknownOk, halign, hr]⟩
  | some r =>
    obtain ⟨henc, hwf⟩ := encode_wf_cpucfgWriteInstr cfg data r
    rw [CpucfgReg.offset_of_ofOffset hr] at henc
    exact ⟨henc, hwf.trans ((CpucfgReg.mem_cpucfgMap_iff cfg r).mp (CpucfgReg.mem_map_of_ofOffset hr))⟩

end Rows

section Decode

variable {cfg : Config}

/-- A nonzero RES is refused before anything else is looked at (R85, R87 step 1). -/
theorem decode_of_reserved {a : Access} (hres : descReserved a.desc ≠ 0) : decode cfg a = .error .reserved :=
  if_pos hres

/-- With RES = 00 and U = 0 block S decodes the other fields (R87 step 2). -/
theorem decode_of_spi {a : Access} (hres : descReserved a.desc = 0) (hu : descUnit a.desc = .spi) :
    decode cfg a = decodeSpi cfg (descSize a.desc) (descDir a.desc) (descOff a.desc) a.data := by
  rw [decode, if_neg (not_not.mpr hres), hu]

/-- With RES = 00 and U = 1 block C decodes the other fields (R87 step 3). -/
theorem decode_of_cpucfg {a : Access} (hres : descReserved a.desc = 0) (hu : descUnit a.desc = .cpucfg) :
    decode cfg a = decodeCpucfg cfg (descSize a.desc) (descDir a.desc) (descOff a.desc) a.data := by
  rw [decode, if_neg (not_not.mpr hres), hu]

theorem decode_mkDescriptor_spi (f : BitVec 2) (dir : Dir) (off : Offset) (data : Word) :
    decode cfg ⟨mkDescriptor .spi f dir off, data⟩ = decodeSpi cfg (f.toNat + 1) dir off data := by
  have h := decode_of_spi (cfg := cfg) (a := ⟨mkDescriptor .spi f dir off, data⟩) (by simp) (by simp)
  rwa [descSize_mkDescriptor, descDir_mkDescriptor, descOff_mkDescriptor] at h

theorem decode_mkDescriptor_cpucfg (f : BitVec 2) (dir : Dir) (off : Offset) (data : Word) :
    decode cfg ⟨mkDescriptor .cpucfg f dir off, data⟩ = decodeCpucfg cfg (f.toNat + 1) dir off data := by
  have h := decode_of_cpucfg (cfg := cfg) (a := ⟨mkDescriptor .cpucfg f dir off, data⟩) (by simp) (by simp)
  rwa [descSize_mkDescriptor, descDir_mkDescriptor, descOff_mkDescriptor] at h

/-- An aligned access to S of a size the sub-word mode lets through is the operation of its offset. -/
theorem decode_spi_ok {sz : SpiSize} {off : Offset} (hok : sizeOk cfg sz = true) (halign : off.toNat % sz.bytes = 0)
    (dir : Dir) (data : Word) : decode cfg ⟨mkDescriptor .spi sz.field dir off, data⟩ =
      .ok (spiInstr dir sz off (lowBytes sz data)) := by
  rw [decode_mkDescriptor_spi, sz.field_toNat, decodeSpi_eq_ok_iff]
  exact ⟨sz, rfl, hok, halign, rfl⟩

/-- An aligned access to C of 4 bytes is the operation of its offset. -/
theorem decode_cpucfg_ok {off : Offset} (halign : off.toNat % 4 = 0) (dir : Dir) (data : Word) :
    decode cfg ⟨mkDescriptor .cpucfg 3 dir off, data⟩ = .ok (cpucfgInstr cfg dir off data) := by
  rw [decode_mkDescriptor_cpucfg, decodeCpucfg_eq_ok_iff]
  exact ⟨rfl, halign, rfl⟩

/-- These are the only accesses that decode accepts (R87). -/
theorem decode_ok_cases {a : Access} {i : Instr} (h : decode cfg a = .ok i) : ∃ dir off,
    (∃ sz : SpiSize, a.desc = mkDescriptor .spi sz.field dir off ∧ sizeOk cfg sz = true ∧
      off.toNat % sz.bytes = 0 ∧ i = spiInstr dir sz off (lowBytes sz a.data)) ∨
    (a.desc = mkDescriptor .cpucfg 3 dir off ∧ off.toNat % 4 = 0 ∧ i = cpucfgInstr cfg dir off a.data) := by
  have hres : descReserved a.desc = 0 := by
    by_contra hne
    rw [decode_of_reserved hne] at h
    nomatch h
  have hdesc := mkDescriptor_fields hres
  refine ⟨descDir a.desc, descOff a.desc, ?_⟩
  cases hu : descUnit a.desc with
  | spi =>
    rw [decode_of_spi hres hu] at h
    rw [hu] at hdesc
    obtain ⟨sz, hsize, hok, halign, rfl⟩ := (decodeSpi_eq_ok_iff ..).mp h
    rw [← hsize, ← SpiSize.field_eq] at hdesc
    exact .inl ⟨sz, hdesc.symm, hok, halign, rfl⟩
  | cpucfg =>
    rw [decode_of_cpucfg hres hu] at h
    rw [hu] at hdesc
    obtain ⟨hsize, halign, rfl⟩ := (decodeCpucfg_eq_ok_iff ..).mp h
    rw [hsize] at hdesc
    exact .inr ⟨hdesc.symm, halign, rfl⟩

end Decode

section Refusals

variable {cfg : Config} {dir : Dir} {off : Offset} {data : Word} {size : Nat} {e : RefuseReason}

/-- Of the sizes a descriptor has, only 3 is none of S (R65, R82). -/
theorem SpiSize.ofBytes_eq_none_iff (hsize : 1 ≤ size ∧ size ≤ 4) : SpiSize.ofBytes size = none ↔ size = 3 := by
  obtain ⟨hlo, hhi⟩ := hsize
  interval_cases size <;> simp [SpiSize.ofBytes]

/-- The sub-word mode refuses the sizes below 4 or none (R66). -/
theorem sizeOk_eq_false_iff_bytes (sz : SpiSize) :
    sizeOk cfg sz = false ↔ sz.bytes = 3 ∨ sz.bytes < 4 ∧ cfg.subwordMode = .refuse := by
  cases hm : cfg.subwordMode <;> cases sz <;> simp [sizeOk, hm, SpiSize.bytes]

/-- The sub-word mode lets through the size 4, or all three (R66). -/
theorem sizeOk_iff_bytes (sz : SpiSize) :
    sizeOk cfg sz = true ↔ sz.bytes = 4 ∨ sz.bytes ≠ 3 ∧ cfg.subwordMode = .exactOffset := by
  cases hm : cfg.subwordMode <;> cases sz <;> simp [sizeOk, hm, SpiSize.bytes]

/-- S refuses a size that is illegal or that the sub-word mode refuses, and then an unaligned offset (R65 to R67). -/
theorem decodeSpi_eq_error_iff (hsize : 1 ≤ size ∧ size ≤ 4) : decodeSpi cfg size dir off data = .error e ↔
    .badSize = e ∧ (size = 3 ∨ size < 4 ∧ cfg.subwordMode = .refuse) ∨
    .misaligned = e ∧ (size = 4 ∨ size ≠ 3 ∧ cfg.subwordMode = .exactOffset) ∧ off.toNat % size ≠ 0 := by
  cases hsz : SpiSize.ofBytes size with
  | none =>
    have h3 := (SpiSize.ofBytes_eq_none_iff hsize).mp hsz
    simp only [decodeSpi, hsz]
    simp [h3]
  | some sz =>
    obtain rfl := SpiSize.ofBytes_eq_some_iff.mp hsz
    rw [decodeSpi_bytes, ← sizeOk_eq_false_iff_bytes, ← sizeOk_iff_bytes]
    cases sizeOk cfg sz with
    | false => simp
    | true => by_cases halign : off.toNat % sz.bytes = 0 <;> simp [halign]

/-- C refuses every size but 4, and then an unaligned offset (R68, R69). -/
theorem decodeCpucfg_eq_error_iff : decodeCpucfg cfg size dir off data = .error e ↔
    .badSize = e ∧ size ≠ 4 ∨ .misaligned = e ∧ size = 4 ∧ off.toNat % 4 ≠ 0 := by
  unfold decodeCpucfg
  split
  · simp_all
  · split <;> simp_all

/-- Why decode refuses an access, in the order of R87. -/
theorem decode_eq_error_iff {a : Access} : decode cfg a = .error e ↔
    .reserved = e ∧ descReserved a.desc ≠ 0 ∨
    descReserved a.desc = 0 ∧ descUnit a.desc = .spi ∧
      decodeSpi cfg (descSize a.desc) (descDir a.desc) (descOff a.desc) a.data = .error e ∨
    descReserved a.desc = 0 ∧ descUnit a.desc = .cpucfg ∧
      decodeCpucfg cfg (descSize a.desc) (descDir a.desc) (descOff a.desc) a.data = .error e := by
  by_cases hres : descReserved a.desc = 0
  · cases hu : descUnit a.desc with
    | spi => simp [decode_of_spi hres hu, hres]
    | cpucfg => simp [decode_of_cpucfg hres hu, hres]
  · simp only [decode_of_reserved hres, Except.error.injEq, ne_eq, hres, not_false_eq_true, and_true, false_and,
      or_false]

end Refusals

end Sys2Proof
end

section
/-! SUPPORT. The round trip of decode and encode (spec/30_encoding.md R80, R86 to R91), and which descriptors decode
refuses. -/

namespace Sys2Proof.Machine

section RoundTrip

variable {cfg : Config}

theorem decode_spiRead_row {sz : SpiSize} {r : SpiReg} (hok : sizeOk cfg sz = true) :
    decode cfg (spiRead sz r.offset) = .ok (spiReadInstr sz r) := by
  rw [spiRead, decode_spi_ok hok (r.offset_mod_bytes sz), spiInstr_read, SpiReg.ofOffset_offset]
  rfl

theorem decode_spiWrite_row {sz : SpiSize} {data : Word} {r : SpiReg}
    (hok : (sizeOk cfg sz && dataFits sz data) = true) :
    decode cfg (spiWrite sz r.offset data) = .ok (spiWriteInstr sz data r) := by
  obtain ⟨hsize, hdata⟩ := Bool.and_eq_true_iff.mp hok
  rw [spiWrite, decode_spi_ok hsize (r.offset_mod_bytes sz), spiInstr_write, SpiReg.ofOffset_offset, eq_of_beq hdata]
  rfl

theorem decode_cpucfgRead_row (hl : layoutOk cfg.r40Layout = true) {r : CpucfgReg} (hr : r.present cfg = true) :
    decode cfg (cpucfgRead (r.offset cfg)) = .ok (cpucfgReadInstr r) := by
  rw [cpucfgRead, decode_cpucfg_ok (CpucfgReg.offset_mod_four hl r), cpucfgInstr_read, CpucfgReg.ofOffset_offset hl hr]
  rfl

theorem decode_cpucfgWrite_row (hl : layoutOk cfg.r40Layout = true) {data : Word} {r : CpucfgReg}
    (hr : r.present cfg = true) : decode cfg (cpucfgWrite (r.offset cfg) data) = .ok (cpucfgWriteInstr data r) := by
  rw [cpucfgWrite, decode_cpucfg_ok (CpucfgReg.offset_mod_four hl r), cpucfgInstr_write,
    CpucfgReg.ofOffset_offset hl hr]
  rfl

theorem decode_spiRead_unknown {sz : SpiSize} {off : Offset} (h : (sizeOk cfg sz && spiUnknownOk sz off) = true) :
    decode cfg (spiRead sz off) = .ok (.sRUnknown sz off) := by
  simp only [spiUnknownOk, Bool.and_eq_true, beq_iff_eq] at h
  obtain ⟨hsize, halign, hnone⟩ := h
  rw [spiRead, decode_spi_ok hsize halign, spiInstr_read, hnone]
  rfl

theorem decode_spiWrite_unknown {sz : SpiSize} {off : Offset} {data : Word}
    (h : (sizeOk cfg sz && dataFits sz data && spiUnknownOk sz off) = true) :
    decode cfg (spiWrite sz off data) = .ok (.sWUnknown sz off data) := by
  simp only [spiUnknownOk, dataFits, Bool.and_eq_true, beq_iff_eq] at h
  obtain ⟨⟨hsize, hdata⟩, halign, hnone⟩ := h
  rw [spiWrite, decode_spi_ok hsize halign, spiInstr_write, hnone, hdata]
  rfl

theorem decode_cpucfgRead_unknown {off : Offset} (h : cpucfgUnknownOk cfg off = true) :
    decode cfg (cpucfgRead off) = .ok (.cRUnknown off) := by
  simp only [cpucfgUnknownOk, Bool.and_eq_true, beq_iff_eq] at h
  obtain ⟨halign, hnone⟩ := h
  rw [cpucfgRead, decode_cpucfg_ok halign, cpucfgInstr_read, hnone]
  rfl

theorem decode_cpucfgWrite_unknown {off : Offset} {data : Word} (h : cpucfgUnknownOk cfg off = true) :
    decode cfg (cpucfgWrite off data) = .ok (.cWUnknown off data) := by
  simp only [cpucfgUnknownOk, Bool.and_eq_true, beq_iff_eq] at h
  obtain ⟨halign, hnone⟩ := h
  rw [cpucfgWrite, decode_cpucfg_ok halign, cpucfgInstr_write, hnone]
  rfl

/-- An admissible configuration has an admissible layout (R203). -/
theorem layoutOk_of_wf (hcfg : cfg.wf = true) : layoutOk cfg.r40Layout = true := by
  simp only [Config.wf, Bool.and_eq_true] at hcfg
  obtain ⟨⟨⟨hl, -⟩, -⟩, -⟩ := hcfg
  exact hl

end RoundTrip

/-- Settles O1: every operation is the read or the write of a row of one block, or of an offset without a row. -/
theorem encodeThenDecodeGivesOperationBack : Obligations.EncodeThenDecodeGivesOperationBack := by
  intro cfg i hcfg hi
  have hl := layoutOk_of_wf hcfg
  cases i with
  | sRUnknown sz off => exact decode_spiRead_unknown hi
  | sWUnknown sz off data => exact decode_spiWrite_unknown hi
  | cRUnknown off => exact decode_cpucfgRead_unknown hi
  | cWUnknown off data => exact decode_cpucfgWrite_unknown hi
  | sRGcr sz | sRTcr sz | sRIer sz | sRIsr sz | sRFcr sz | sRFsr sz | sRWcr sz | sRCcr sz | sRMbc sz | sRMtc sz
  | sRBcc sz | sRDmactl sz | sRTxd sz | sRRxd sz => exact decode_spiRead_row hi
  | sWGcr sz data | sWTcr sz data | sWIer sz data | sWIsr sz data | sWFcr sz data | sWFsr sz data | sWWcr sz data
  | sWCcr sz data | sWMbc sz data | sWMtc sz data | sWBcc sz data | sWDmactl sz data | sWTxd sz data
  | sWRxd sz data => exact decode_spiWrite_row hi
  | cRRstCtrl0 | cRRstCtrl1 | cRRstCtrl2 | cRRstCtrl3 | cRCtrl0 | cRCtrl1 | cRCtrl2 | cRCtrl3
  | cRStatus0 | cRStatus1 | cRStatus2 | cRStatus3 | cRGenCtrl | cRSuperStandby | cREntryAddr
  | cRPwroffGating | cRPsw0 | cRPsw1 | cRPsw2 | cRPsw3 | cRPswDelay | cRCfgDelay | cRPwrdnCfg
  | cRPwrupCfg0 | cRPwrupCfg1 | cRPwrupCfg2 | cRPwrupCfg3 | cRPwrupCfg4 | cRPwrupCfg5
  | cRUnimpDbgExtern | cRUnimpCnt64Ctrl | cRUnimpCnt64Low | cRUnimpCnt64High => exact decode_cpucfgRead_row hl hi
  | _ => exact decode_cpucfgWrite_row hl hi

/-- Settles O2: the descriptor of an accepted access is assembled from the fields that encode writes back, and a write's
operand is the slice that decode cut. -/
theorem decodeDropsNoBit : Obligations.DecodeDropsNoBit := by
  intro cfg a i h
  have hsize := descSize_eq a.desc
  have hdir := descDir_eq_write_iff a.desc
  obtain ⟨dir, off, ⟨sz, hdesc, hok, halign, rfl⟩ | ⟨hdesc, halign, rfl⟩⟩ := decode_ok_cases h
  · rw [hdesc, descSize_mkDescriptor, sz.field_toNat] at hsize
    rw [hdesc, descDir_mkDescriptor] at hdir
    rw [hdesc, ← hsize, ← hdir]
    cases dir with
    | read =>
      obtain ⟨henc, hwf⟩ := spiInstr_read_spec hok halign (lowBytes sz a.data)
      exact ⟨hwf, congrArg Access.desc henc, nofun⟩
    | write =>
      obtain ⟨henc, hwf⟩ := spiInstr_write_spec hok halign (beq_iff_eq.mpr (lowBytes_idem sz a.data))
      exact ⟨hwf, congrArg Access.desc henc, fun _ => by rw [henc]; exact lowBytes_toNat sz a.data⟩
  · rw [hdesc, descSize_mkDescriptor] at hsize
    rw [hdesc, descDir_mkDescriptor] at hdir
    rw [hdesc, ← hsize, ← hdir]
    cases dir with
    | read =>
      obtain ⟨henc, hwf⟩ := cpucfgInstr_read_spec (cfg := cfg) halign a.data
      exact ⟨hwf, congrArg Access.desc henc, nofun⟩
    | write =>
      obtain ⟨henc, hwf⟩ := cpucfgInstr_write_spec (cfg := cfg) halign a.data
      exact ⟨hwf, congrArg Access.desc henc, fun _ => by rw [henc]; exact (Nat.mod_eq_of_lt a.data.isLt).symm⟩

/-- Settles O3: RES decides first, then the unit's size rule, then the alignment. -/
theorem decodeRefusesExactlyTheIllegalDescriptors : Obligations.DecodeRefusesExactlyTheIllegalDescriptors := by
  intro cfg a d size off
  have hsize : descSize a.desc = size := descSize_eq a.desc
  have hoff : (descOff a.desc).toNat = off := descOff_toNat a.desc
  have hrange : 1 ≤ size ∧ size ≤ 4 := by omega
  have hunit : descUnit a.desc = .spi ↔ d < 32768 := descUnit_eq_spi_iff a.desc
  have herror : ∀ e, decode cfg a = .error e ↔ _ := fun e => decode_eq_error_iff
  simp only [hsize, hoff, decodeSpi_eq_error_iff hrange, decodeCpucfg_eq_error_iff, ne_eq,
    descReserved_eq_zero_iff] at herror
  by_cases hd : d < 32768
  · simp [herror, hunit.mpr hd, hd, d]
  · have hcpu : descUnit a.desc = .cpucfg := by
      cases hu : descUnit a.desc with
      | spi => exact absurd (hunit.mp hu) hd
      | cpucfg => rfl
    simp [herror, hcpu, hd, d]

end Sys2Proof.Machine
end

section
/-! SUPPORT. The operation maps read from descriptors written as numbers (spec/30_encoding.md R88 to R91, R95). -/

namespace Sys2Proof.Machine

variable {cfg : Config}

/-- The descriptor of an aligned access to S, as a number, decodes to the operation of its offset. -/
theorem decode_spi_ofNat {sz : SpiSize} (hok : sizeOk cfg sz = true) {off : Nat} (hoff : off < 0x400)
    (halign : off % sz.bytes = 0) (dir : Dir) (data : Word) :
    decode cfg ⟨BitVec.ofNat 16 (descriptorHead .spi dir sz.bytes + off), data⟩ =
      .ok (spiInstr dir sz (BitVec.ofNat 10 off) (lowBytes sz data)) := by
  rw [← mkDescriptor_eq_ofNat .spi dir sz.bytes_range hoff, ← sz.field_eq]
  refine decode_spi_ok hok ?_ dir data
  rwa [BitVec.toNat_ofNat, Nat.mod_eq_of_lt hoff]

/-- The descriptor of an aligned access to C, as a number, decodes to the operation of its offset. -/
theorem decode_cpucfg_ofNat {off : Nat} (hoff : off < 0x400) (halign : off % 4 = 0) (dir : Dir) (data : Word) :
    decode cfg ⟨BitVec.ofNat 16 (descriptorHead .cpucfg dir 4 + off), data⟩ =
      .ok (cpucfgInstr cfg dir (BitVec.ofNat 10 off) data) := by
  rw [← mkDescriptor_eq_ofNat .cpucfg dir (by decide) hoff]
  refine decode_cpucfg_ok ?_ dir data
  rwa [BitVec.toNat_ofNat, Nat.mod_eq_of_lt hoff]

/-- Settles O5: the listed rows are `SpiReg.all`, each found at its own offset, and no other offset names a row. -/
theorem spiDescriptorsDecodeByTheOperationMap : Obligations.SpiDescriptorsDecodeByTheOperationMap := by
  intro cfg sz data hmode v read write
  have hok := sizeOk_iff.mpr hmode
  have hread : ∀ off, off < 0x400 → off % sz.bytes = 0 →
      read off = .ok ((SpiReg.ofOffset (BitVec.ofNat 10 off)).elim (.sRUnknown sz (BitVec.ofNat 10 off))
        (spiReadInstr sz)) := by
    intro off hoff halign
    have h := decode_spi_ofNat hok hoff halign .read data
    rwa [spiInstr_read, descriptorHead, if_pos rfl, Nat.zero_add] at h
  have hwrite : ∀ off, off < 0x400 → off % sz.bytes = 0 →
      write off = .ok ((SpiReg.ofOffset (BitVec.ofNat 10 off)).elim (.sWUnknown sz (BitVec.ofNat 10 off) v)
        (spiWriteInstr sz v)) := by
    intro off hoff halign
    have h := decode_spi_ofNat hok hoff halign .write data
    rwa [spiInstr_write, descriptorHead, if_pos rfl, Nat.zero_add, lowBytes_eq_sliceLow] at h
  constructor
  · have hrow : ∀ r : SpiReg, read r.offset.toNat = .ok (spiReadInstr sz r) ∧
        write r.offset.toNat = .ok (spiWriteInstr sz v r) := by
      intro r
      have hfound : SpiReg.ofOffset (BitVec.ofNat 10 r.offset.toNat) = some r := by
        rw [BitVec.ofNat_toNat, BitVec.setWidth_eq, SpiReg.ofOffset_offset]
      rw [hread _ r.offset.isLt (r.offset_mod_bytes sz), hwrite _ r.offset.isLt (r.offset_mod_bytes sz), hfound]
      exact ⟨rfl, rfl⟩
    change ∀ p ∈ SpiReg.all.map fun r => (r.offset.toNat, spiReadInstr sz r, spiWriteInstr sz v r), _
    exact List.forall_mem_map.mpr fun r _ => hrow r
  · intro off hoff halign hnot
    have hnone : SpiReg.ofOffset (BitVec.ofNat 10 off) = none := by
      refine SpiReg.ofOffset_eq_none ?_
      rwa [BitVec.toNat_ofNat, Nat.mod_eq_of_lt hoff]
    rw [hread off hoff halign, hwrite off hoff halign, hnone]
    exact ⟨rfl, rfl⟩

/-- Settles O6: the listed rows are `CpucfgReg.fixed` and, in the r40 variant, `R40Reg.all` in the default layout; each
is found at its own offset, and no other offset names a row. -/
theorem cpucfgDescriptorsDecodeByTheOperationMap : Obligations.CpucfgDescriptorsDecodeByTheOperationMap := by
  intro cfg v hcfg read write
  have hl := layoutOk_of_wf hcfg
  have hread : ∀ off, off < 0x400 → off % 4 = 0 →
      read off = .ok ((CpucfgReg.ofOffset cfg (BitVec.ofNat 10 off)).elim (.cRUnknown (BitVec.ofNat 10 off))
        cpucfgReadInstr) := fun off hoff halign =>
    (decode_cpucfg_ofNat hoff halign .read v).trans (congrArg _ (cpucfgInstr_read ..))
  have hwrite : ∀ off, off < 0x400 → off % 4 = 0 →
      write off = .ok ((CpucfgReg.ofOffset cfg (BitVec.ofNat 10 off)).elim (.cWUnknown (BitVec.ofNat 10 off) v)
        (cpucfgWriteInstr v)) := fun off hoff halign =>
    (decode_cpucfg_ofNat hoff halign .write v).trans (congrArg _ (cpucfgInstr_write ..))
  have hrow : ∀ r : CpucfgReg, r.present cfg = true → read (r.offset cfg).toNat = .ok (cpucfgReadInstr r) ∧
      write (r.offset cfg).toNat = .ok (cpucfgWriteInstr v r) := by
    intro r hr
    have hfound : CpucfgReg.ofOffset cfg (BitVec.ofNat 10 (r.offset cfg).toNat) = some r := by
      rw [BitVec.ofNat_toNat, BitVec.setWidth_eq, CpucfgReg.ofOffset_offset hl hr]
    have halign := CpucfgReg.offset_mod_four hl r
    rw [hread _ (r.offset cfg).isLt halign, hwrite _ (r.offset cfg).isLt halign, hfound]
    exact ⟨rfl, rfl⟩
  refine ⟨?_, fun hv hdefault => ?_, fun off hoff halign hnot hslot => ?_⟩
  · change ∀ p ∈ CpucfgReg.fixed.map fun r => ((r.offset cfg).toNat, cpucfgReadInstr r, cpucfgWriteInstr v r), _
    exact List.forall_mem_map.mpr fun r hr => hrow r (CpucfgReg.present_of_mem_fixed hr cfg)
  · have hr40 : ∀ x, read (r40Offset R40Reg.all x).toNat = .ok (r40ReadInstr x) ∧
        write (r40Offset R40Reg.all x).toNat = .ok (r40WriteInstr v x) :=
      fun x => hdefault ▸ hrow (.r40 x) (beq_iff_eq.mpr hv)
    change ∀ p ∈ R40Reg.all.map fun x => ((r40Offset R40Reg.all x).toNat, r40ReadInstr x, r40WriteInstr v x), _
    exact List.forall_mem_map.mpr fun x _ => hr40 x
  · have hnone : CpucfgReg.ofOffset cfg (BitVec.ofNat 10 off) = none := by
      have hnat : (BitVec.ofNat 10 off).toNat = off := by rw [BitVec.toNat_ofNat, Nat.mod_eq_of_lt hoff]
      exact CpucfgReg.ofOffset_eq_none hl (by rwa [hnat]) (by rwa [hnat])
    rw [hread off hoff halign, hwrite off hoff halign, hnone]
    exact ⟨rfl, rfl⟩

/-- Settles O4: the descriptors are legal accesses of the operation maps, or refused by the size or the alignment
rule. -/
theorem workedDescriptorsDecode : Obligations.WorkedDescriptorsDecode := by
  intro cfg w hmode
  have hok : ∀ sz, sizeOk cfg sz = true := fun sz => sizeOk_iff.mpr (.inr hmode)
  have hspi : ∀ (sz : SpiSize) (dir : Dir) (off : Nat), off < 0x400 → off % sz.bytes = 0 →
      decode cfg ⟨BitVec.ofNat 16 (descriptorHead .spi dir sz.bytes + off), w⟩ =
        .ok (spiInstr dir sz (BitVec.ofNat 10 off) (lowBytes sz w)) :=
    fun sz dir off hoff halign => decode_spi_ofNat (hok sz) hoff halign dir w
  have hcommon : ∀ r ∈ CpucfgReg.common,
      decode cfg ⟨BitVec.ofNat 16 (descriptorHead .cpucfg .read 4 + (r.offset cfg).toNat), w⟩ =
        .ok (cpucfgReadInstr r) ∧
      decode cfg ⟨BitVec.ofNat 16 (descriptorHead .cpucfg .write 4 + (r.offset cfg).toNat), w⟩ =
        .ok (cpucfgWriteInstr w r) := by
    intro r hr
    obtain ⟨halign, -⟩ := CpucfgReg.offset_range_of_mem_fixed (List.mem_append_left _ hr) cfg
    rw [decode_cpucfg_ofNat (r.offset cfg).isLt halign, decode_cpucfg_ofNat (r.offset cfg).isLt halign,
      cpucfgInstr_read, cpucfgInstr_write, BitVec.ofNat_toNat, BitVec.setWidth_eq,
      CpucfgReg.ofOffset_offset_of_mem_common hr]
    exact ⟨rfl, rfl⟩
  have htxd := hspi .b4 .write 0x200 (by decide) (by decide)
  have htcr := hspi .b4 .write 0x008 (by decide) (by decide)
  rw [lowBytes_b4] at htxd htcr
  obtain ⟨-, hsize, -⟩ := decodeRefusesExactlyTheIllegalDescriptors cfg ⟨0x8DA4, w⟩
  obtain ⟨-, -, halign, -⟩ := decodeRefusesExactlyTheIllegalDescriptors cfg ⟨0x180A, w⟩
  exact ⟨htxd, hspi .b1 .read 0x300 (by decide) (by decide), htcr, (hcommon .entryAddr (by decide)).1,
    (hcommon (.rstCtrl 2) (by decide)).2, hsize.mpr (by simp), halign.mpr (by simp),
    hspi .b2 .read 0x00A (by decide) (by decide)⟩

end Sys2Proof.Machine
end

section
/-! SUPPORT. The word queue (spec/40_fifo.md R101 to R109): one move keeps the capacity and stays within it, pushes that
all fit append their words, and as many pops as there are words empty the queue in order. -/

namespace Sys2Proof.Machine

namespace WordQueue

/-- `q_empty` says that the count is 0. -/
theorem empty_iff (q : WordQueue) : q.empty = true ↔ q.items.length = 0 := beq_iff_eq

/-- No queue of positive capacity is both empty and full (R106). -/
theorem not_empty_and_full {q : WordQueue} (hcap : 0 < q.cap) : ¬ (q.empty = true ∧ q.full = true) := by
  rintro ⟨hempty, hfull⟩
  have hzero : q.cap = 0 := (q.full_iff.mp hfull).symm.trans (q.empty_iff.mp hempty)
  exact hcap.ne' hzero

/-- No primitive resizes a queue (R100). -/
theorem move_cap (q : WordQueue) (m : QueueMove) : (q.move m).cap = q.cap := by
  cases m with
  | reset => exact q.reset_cap
  | push w => exact q.push_cap w
  | pop => exact q.pop_cap

/-- No primitive takes a queue beyond its capacity (R102 to R104). -/
theorem move_length_le {q : WordQueue} (h : q.items.length ≤ q.cap) (m : QueueMove) :
    (q.move m).items.length ≤ q.cap := by
  cases m with
  | reset => exact Nat.zero_le _
  | push w => exact q.push_length_le w h
  | pop => exact q.pop_length_le.trans h

/-- Words that all fit are appended in the order they are pushed (R103). -/
theorem foldl_push_of_fits {q : WordQueue} {ws : List Word} (h : q.items.length + ws.length ≤ q.cap) :
    ws.foldl push q = { q with items := q.items ++ ws } := by
  induction ws generalizing q with
  | nil => simp
  | cons w ws ih =>
    rw [List.length_cons] at h
    rw [List.foldl_cons, q.push_of_lt w (by omega), ih (by simp; omega)]
    simp

/-- As many pops as a queue holds words return them oldest first and leave it empty (R104). -/
theorem popMany_length (cap : Nat) (ws : List Word) :
    popMany ws.length ⟨cap, ws⟩ = (ws, ⟨cap, []⟩) := by
  induction ws with
  | nil => rfl
  | cons w ws ih => rw [List.length_cons, popMany, pop_cons _ rfl, ih]

end WordQueue

/-- Settles O16: the capacity and the bound, kept by each primitive, are kept along the sequence. -/
theorem queueNeverExceedsItsCapacity : Obligations.QueueNeverExceedsItsCapacity := by
  intro q ms hq
  induction ms generalizing q with
  | nil => exact ⟨rfl, hq⟩
  | cons m ms ih =>
    have hcap : (q.move m).cap = q.cap := q.move_cap m
    have hlen : (q.move m).items.length ≤ (q.move m).cap := hcap.symm ▸ WordQueue.move_length_le hq m
    have hrest := ih (q.move m) hlen
    rwa [hcap] at hrest

/-- Settles O17: the pushes append the words to those queued, and the pops return the whole contents in order. -/
theorem queueIsFirstInFirstOut : Obligations.QueueIsFirstInFirstOut := by
  intro q ws h
  rw [WordQueue.foldl_push_of_fits h, ← List.length_append]
  exact WordQueue.popMany_length q.cap (q.items ++ ws)

/-- Settles O15: the laws of each primitive, with the two cases of a push and of a pop. -/
theorem queuePrimitives : Obligations.QueuePrimitives := by
  refine ⟨fun n => ⟨WordQueue.create_cap n, WordQueue.create_items n⟩, fun q w => ?_⟩
  exact ⟨rfl, q.push_of_lt w, fun h => q.push_of_ge w (Nat.le_of_not_lt h), q.pop_nil, fun _ _ => q.pop_cons, rfl,
    q.empty_iff, q.full_iff, WordQueue.not_empty_and_full⟩

end Sys2Proof.Machine
end

section
/-! SUPPORT. The register operations of block S (spec/41_spi_registers.md R120 to R151), by row of R88: a read of a row
that holds a word returns its slice, a write of a storage row stores, the queue ports push and pop, and what is rejected
is only logged. -/

namespace Sys2Proof.Machine

/-- A write of S delivers the slice of its data (R66, R121). -/
theorem writeValue_eq_sliceLow (sz : SpiSize) (data : Word) : writeValue sz data = sliceLow sz data :=
  lowBytes_eq_sliceLow sz data

theorem sliceLow_b4 (w : Word) : sliceLow .b4 w = w := by
  rw [← lowBytes_eq_sliceLow, lowBytes_b4]

theorem sliceLow_zero (sz : SpiSize) : sliceLow sz 0 = 0 := by
  simp [sliceLow]

/-- The slice of a number that a word holds. -/
theorem sliceLow_ofNat (sz : SpiSize) {n : Nat} (hn : n < 2 ^ 32) :
    sliceLow sz (BitVec.ofNat 32 n) = BitVec.ofNat 32 (n % 2 ^ (8 * sz.bytes)) := by
  rw [sliceLow, BitVec.toNat_ofNat, Nat.mod_eq_of_lt hn]

/-- The status word as a number, for queues whose counts fit its fields (R26). -/
theorem fsrWord_eq_ofNat {tx rx : WordQueue} (htx : tx.items.length < 256) (hrx : rx.items.length < 256) :
    fsrWord tx rx = BitVec.ofNat 32 (tx.items.length * 65536 + rx.items.length) := by
  have hor : tx.items.length * 65536 ||| rx.items.length = tx.items.length * 65536 + rx.items.length := by
    rw [mul_comm]
    exact (Nat.two_pow_add_eq_or_of_lt (i := 16) (by omega) _).symm
  have hfit : ∀ {n : Nat}, n < 2 ^ 24 → n % 2 ^ 32 = n := fun h => Nat.mod_eq_of_lt (by omega)
  apply BitVec.eq_of_toNat_eq
  simp only [fsrWord, WordQueue.count, BitVec.toNat_or, BitVec.toNat_shiftLeft, BitVec.toNat_setWidth,
    BitVec.toNat_ofNat, Nat.shiftLeft_eq, Nat.mod_eq_of_lt (b := 2 ^ 8) htx, Nat.mod_eq_of_lt (b := 2 ^ 8) hrx]
  rw [hfit (by omega), hfit (by omega), hfit (by omega), hfit (by omega)]
  exact hor

/-- Both variants' depths fit the count fields of FSR (R7, R26). -/
theorem spiDepth_words_lt (d : SpiDepth) : d.words < 256 := by
  cases d <;> decide

section Rows

variable (s : State) (sz : SpiSize)

/-- The result of a read of S is handed over as its slice, and nothing else changes (R66, R120). -/
theorem State.spiResult_eq (w : Word) :
    s.spiResult sz w = { s with replies := s.replies ++ [.value sz.bytes (sliceLow sz w)] } := by
  rw [← lowBytes_eq_sliceLow]
  rfl

variable {s} in
/-- The read of a row that holds a word returns that word's slice; FSR's word is computed, not stored (R26, R120). -/
theorem exec_spiReadInstr {r : SpiReg} {w : Word} (h : spiWord s.spi r = some w) :
    exec (spiReadInstr sz r) s = .next { s with replies := s.replies ++ [.value sz.bytes (sliceLow sz w)] } := by
  have hresult : exec (spiReadInstr sz r) s = .next (s.spiResult sz w) := by
    cases r with
    | txd | rxd => nomatch h
    | _ =>
      obtain rfl := Option.some.inj h
      rfl
  rw [hresult, s.spiResult_eq]

/-- A TCR write stores the value less the start bit, in the state its burst, if any, leads to (R160, R165). -/
theorem exec_sWTcr_stores (data : Word) : ∃ u, Underway s u ∧
    exec (.sWTcr sz data) s = .next (u.storeTcr (writeValue sz data)).complete := by
  refine ⟨if (writeValue sz data).getLsbD s.cfg.tcrXchBit then s.burst else s, ?_, rfl⟩
  split
  · exact s.burst_underway
  · exact ⟨⟨[], (List.append_nil _).symm⟩, rfl, rfl, rfl⟩

variable {s sz} in
/-- The write of a storage row leaves there what R151 says, and completes. -/
theorem exec_spiWriteInstr_stores {r : SpiReg} {data back : Word}
    (h : storedBack s.cfg (writeValue sz data) r = some back) :
    ∃ t, exec (spiWriteInstr sz data r) s = .next t ∧ spiWord t.spi r = some back ∧
      t.replies = s.replies ++ [.done] ∧ t.pending = s.pending := by
  cases r with
  | fsr | txd | rxd => nomatch h
  | tcr =>
    obtain rfl := Option.some.inj h
    obtain ⟨u, ⟨-, hreplies, hcfg, hpending⟩, he⟩ := exec_sWTcr_stores s sz data
    refine ⟨_, he, ?_, congrArg (· ++ [Reply.done]) hreplies, hpending⟩
    rw [← hcfg]
    rfl
  | fcr =>
    obtain rfl := Option.some.inj h
    exact ⟨_, rfl, congrArg some (clearBit_clearBit ..), rfl, rfl⟩
  | gcr | ier | isr | wcr | ccr | mbc | mtc | bcc | dmactl => exact ⟨_, rfl, h, rfl, rfl⟩

end Rows

/-- Settles O20: the write leaves the value R151 names in the register, and the read returns the register whole. -/
theorem spiStorageRoundTrip : Obligations.SpiStorageRoundTrip := by
  intro s r v back rest hback hp
  have hdecodeWrite : decode s.cfg (spiWrite .b4 r.offset v) = .ok (spiWriteInstr .b4 v r) :=
    decode_spiWrite_row (by simp [sizeOk, dataFits])
  have hstored : storedBack s.cfg (writeValue .b4 v) r = some back := by rwa [writeValue, lowBytes_b4]
  obtain ⟨t, hwrite, hword, hreplies, hpending⟩ := exec_spiWriteInstr_stores
    (s := { s with pending := .access (spiRead .b4 r.offset) :: rest }) hstored
  have hdecodeRead : decode t.cfg (spiRead .b4 r.offset) = .ok (spiReadInstr .b4 r) :=
    decode_spiRead_row (by simp [sizeOk])
  refine ⟨t, _, (stepRunsTheDecodedOperation s _ _ _ hp hdecodeWrite).trans hwrite,
    (stepRunsTheDecodedOperation t _ _ _ hpending hdecodeRead).trans (exec_spiReadInstr .b4 hword), ?_, rfl⟩
  change t.replies ++ _ = _
  rw [hreplies, sliceLow_b4, List.append_assoc]
  rfl

/-- Settles O18: each write runs as written in its row; the TCR write stores after its burst, which keeps the
configuration, and the FCR write clears its two bits one after the other. -/
theorem spiStorageWritesReplaceTheRegister : Obligations.SpiStorageWritesReplaceTheRegister := by
  intro s sz data
  rw [← writeValue_eq_sliceLow]
  refine ⟨rfl, rfl, rfl, rfl, rfl, rfl, rfl, rfl, rfl, ?_, _, rfl, clearBit_clearBit ..⟩
  obtain ⟨u, ⟨-, -, hcfg, -⟩, he⟩ := exec_sWTcr_stores s sz data
  refine ⟨_, he, ?_⟩
  rw [← hcfg]
  rfl

/-- Settles O19: every storage row reads as the word it holds, also when that is the constant a reset loads. -/
theorem spiStorageReadsReturnTheRegister : Obligations.SpiStorageReadsReturnTheRegister := by
  intro s sz returned afterReset r
  have hread : ∀ {reg w}, spiWord s.spi reg = some w → exec (spiReadInstr sz reg) s = returned w :=
    fun h => exec_spiReadInstr sz h
  have hreset : ∀ {reg w}, spiWord r.spi reg = some w → exec (spiReadInstr .b4 reg) r = afterReset r w := by
    intro reg w h
    rw [exec_spiReadInstr .b4 h, sliceLow_b4]
    rfl
  exact ⟨hread (reg := .gcr) rfl, hread (reg := .tcr) rfl, hread (reg := .ier) rfl, hread (reg := .isr) rfl,
    hread (reg := .fcr) rfl, hread (reg := .wcr) rfl, hread (reg := .ccr) rfl, hread (reg := .mbc) rfl,
    hread (reg := .mtc) rfl, hread (reg := .bcc) rfl, hread (reg := .dmactl) rfl,
    hreset (reg := .gcr) rfl, hreset (reg := .tcr) rfl, hreset (reg := .ier) rfl, hreset (reg := .isr) rfl,
    hreset (reg := .fcr) rfl, hreset (reg := .wcr) rfl, hreset (reg := .ccr) rfl, hreset (reg := .mbc) rfl,
    hreset (reg := .mtc) rfl, hreset (reg := .bcc) rfl, hreset (reg := .dmactl) rfl⟩

/-- Settles O22: within the depth of either variant both counts fit their fields, so no bit of a count is lost. -/
theorem fifoStatusPacksTheCounts : Obligations.FifoStatusPacksTheCounts := by
  intro s sz hgood
  have hwords := spiDepth_words_lt s.cfg.spiDepth
  have htx := hgood.txLen.trans_lt hwords
  have hrx := hgood.rxLen.trans_lt hwords
  have hread := exec_spiReadInstr (s := s) (r := .fsr) sz rfl
  rwa [fsrWord_eq_ofNat htx hrx, sliceLow_ofNat sz (by omega)] at hread

/-- Settles O21: the two clearings of R130 are one mask. -/
theorem fifoControlWrite : Obligations.FifoControlWrite := by
  intro s sz data v
  have hv : v = writeValue sz data := (writeValue_eq_sliceLow sz data).symm
  rw [hv, ← clearBit_clearBit]
  rfl

/-- Settles O23: the two cases are those of `q_push` (R103). -/
theorem transmitDataWritePushes : Obligations.TransmitDataWritePushes := by
  intro s sz data
  have hrun : exec (.sWTxd sz data) s =
      .next (s.setSpi { s.spi with tx := s.spi.tx.push (writeValue sz data) }).complete := rfl
  rw [hrun, writeValue_eq_sliceLow]
  split
  · next hroom =>
    rw [WordQueue.push_of_lt _ _ hroom]
    rfl
  · next hfull =>
    rw [WordQueue.push_of_ge _ _ (Nat.le_of_not_lt hfull)]
    rfl

/-- Settles O24: the two cases are those of `q_pop` (R104). -/
theorem receiveDataReadPops : Obligations.ReceiveDataReadPops := by
  intro s sz
  have hrun : exec (.sRRxd sz) s =
      .next ((s.setSpi { s.spi with rx := s.spi.rx.pop.2 }).spiResult sz s.spi.rx.pop.1) := rfl
  constructor
  · intro hempty
    rw [hrun, WordQueue.pop_nil _ hempty, State.spiResult_eq, sliceLow_zero]
    rfl
  · intro h t hitems
    rw [hrun, WordQueue.pop_cons _ hitems, State.spiResult_eq]
    rfl

/-- A rejected read of S logs one diagnostic and returns 0 (R146, R149). -/
theorem State.spiRejectRead_eq (s : State) (sz : SpiSize) (code : DiagCode) (off : Offset) :
    s.spiRejectRead sz code off = { s with
      history := s.history ++ [.diag .spi code off .none]
      replies := s.replies ++ [.value sz.bytes 0] } := by
  rw [State.spiRejectRead, State.spiResult_eq, sliceLow_zero]
  rfl

/-- A rejected write of S logs one diagnostic with the value and completes (R132, R148, R150). -/
theorem State.spiRejectWrite_eq (s : State) (sz : SpiSize) (code : DiagCode) (off : Offset) (data : Word) :
    s.spiRejectWrite code off (writeValue sz data) = { s with
      history := s.history ++ [.diag .spi code off (.value (sliceLow sz data))]
      replies := s.replies ++ [.done] } := by
  rw [writeValue_eq_sliceLow]
  rfl

/-- Settles O25: each rejected direction is the rejected read or write at its register's offset. -/
theorem rejectedDirectionsOnlyLog : Obligations.RejectedDirectionsOnlyLog :=
  ⟨rfl, rfl, fun s sz data => ⟨congrArg _ (s.spiRejectWrite_eq sz .roWrite 0x01C data),
    congrArg _ (s.spiRejectRead_eq sz .woRead 0x200), congrArg _ (s.spiRejectWrite_eq sz .roWrite 0x300 data)⟩⟩

/-- Settles O26: the operations of an unlisted offset are the rejected read and write there, and an offset outside R88
names no row. -/
theorem spiUnknownOffsetsOnlyLog : Obligations.SpiUnknownOffsetsOnlyLog := by
  refine ⟨rfl, fun s sz off data => ⟨congrArg _ (s.spiRejectRead_eq sz .unknownOffset off),
    congrArg _ (s.spiRejectWrite_eq sz .unknownOffset off data)⟩, fun cfg sz off data hmode halign hnot => ?_⟩
  have hok := sizeOk_iff.mpr hmode
  have hnone : SpiReg.ofOffset off = none := SpiReg.ofOffset_eq_none hnot
  have hread := decode_spi_ok hok halign .read 0
  have hwrite := decode_spi_ok hok halign .write data
  rw [spiInstr_read, hnone] at hread
  rw [spiInstr_write, hnone, lowBytes_eq_sliceLow] at hwrite
  exact ⟨hread, hwrite⟩

end Sys2Proof.Machine
end

section
/-! SUPPORT. The diagnostics of block S (spec/41_spi_registers.md R152): which operations emit one, and that the word
loop of a burst emits exchanges only (spec/42_spi_burst.md R164). -/

namespace Sys2Proof.Machine

/-- `t` extends the history of `s`, and a diagnostic is among the new events just if `p` holds. -/
def Emits (s t : State) (p : Prop) : Prop :=
  ∃ es, t.history = s.history ++ es ∧ ((∃ e ∈ es, isDiag e = true) ↔ p)

/-- The operations of S that R152 lists. -/
def SpiLogs (s : State) (i : Instr) : Prop :=
  (∃ sz data, i = .sWFsr sz data) ∨ (∃ sz, i = .sRTxd sz) ∨ (∃ sz data, i = .sWRxd sz data) ∨
    (∃ sz off, i = .sRUnknown sz off) ∨ (∃ sz off data, i = .sWUnknown sz off data) ∨
    ∃ sz data, i = .sWTcr sz data ∧ (sliceLow sz data).getLsbD s.cfg.tcrXchBit = true ∧
      (s.spi.mbc.toNat % 2 ^ 24 = 0 ∨ s.spi.mbc.toNat % 2 ^ 24 ≠ s.spi.tx.items.length)

variable {s t : State} {p : Prop}

/-- A silent operation. -/
theorem Emits.of_eq (h : t.history = s.history) (hp : ¬ p) : Emits s t p :=
  ⟨[], by rw [h, List.append_nil], by simp [hp]⟩

/-- An operation whose first event is a diagnostic. -/
theorem Emits.of_diag {u : Block} {code : DiagCode} {off : Offset} {info : DiagInfo} {es : List Event}
    (h : t.history = s.history ++ .diag u code off info :: es) (hp : p) : Emits s t p :=
  ⟨_, h, iff_of_true ⟨_, List.mem_cons_self, rfl⟩ hp⟩

/-- The word loop records exchanges and logs nothing (R164). -/
theorem State.burstLoop_history (n : Nat) (s : State) :
    ∃ es, (s.burstLoop n).history = s.history ++ es ∧ ∀ e ∈ es, isExchange e = true := by
  induction n generalizing s with
  | zero => exact ⟨[], (List.append_nil _).symm, nofun⟩
  | succ n ih =>
    obtain ⟨r, rest, -, hw⟩ := s.burstWord_spec
    obtain ⟨es, hes, hall⟩ := ih s.burstWord
    rw [hw, List.append_assoc] at hes
    refine ⟨.exchange s.spi.tx.pop.1 r :: es, ?_, List.forall_mem_cons.mpr ⟨rfl, hall⟩⟩
    rw [State.burstLoop, hw]
    exact hes

theorem isDiag_of_isExchange {e : Event} (h : isExchange e = true) : isDiag e = false := by
  cases e with
  | exchange tx rx => rfl
  | _ => nomatch h

/-- A burst logs a diagnostic if its declared length is 0 or is not the TX count, and else none (R162 to R164). -/
theorem State.burst_emits (s : State) :
    Emits s s.burst (s.spi.mbc.toNat % 2 ^ 24 = 0 ∨ s.spi.mbc.toNat % 2 ^ 24 ≠ s.spi.tx.items.length) := by
  rw [← declaredLength_eq]
  by_cases hz : declaredLength s.spi = 0
  · rw [s.burst_zero hz]
    exact .of_diag rfl (.inl hz)
  · by_cases hc : declaredLength s.spi = s.spi.tx.count
    · obtain ⟨es, hes, hall⟩ := s.burstLoop_history (declaredLength s.spi)
      rw [s.burst_of_eq hz hc]
      refine ⟨es, hes, iff_of_false ?_ (not_or.mpr ⟨hz, not_not.mpr hc⟩)⟩
      rintro ⟨e, he, hdiag⟩
      rw [isDiag_of_isExchange (hall e he)] at hdiag
      nomatch hdiag
    · rw [s.burst_of_ne hz hc]
      obtain ⟨es, hes, -⟩ := (s.log .spi .burstMismatch SpiReg.tcr.offset
        (.lengths (declaredLength s.spi) s.spi.tx.count)).burstLoop_history s.spi.tx.count
      rw [State.log_history, List.append_assoc] at hes
      exact .of_diag hes (.inr hc)

/-- When R152 lists a TCR write. -/
theorem spiLogs_sWTcr_iff {sz : SpiSize} {data : Word} : SpiLogs s (.sWTcr sz data) ↔
    (sliceLow sz data).getLsbD s.cfg.tcrXchBit = true ∧
      (s.spi.mbc.toNat % 2 ^ 24 = 0 ∨ s.spi.mbc.toNat % 2 ^ 24 ≠ s.spi.tx.items.length) := by
  simp [SpiLogs]

/-- A TCR write logs just what its burst logs, and nothing without the start bit (R160, R165). -/
theorem exec_sWTcr_emits (s : State) (sz : SpiSize) (data : Word) :
    ∃ t, exec (.sWTcr sz data) s = .next t ∧ Emits s t (SpiLogs s (.sWTcr sz data)) := by
  refine ⟨_, rfl, ?_⟩
  rw [writeValue_eq_sliceLow, spiLogs_sWTcr_iff]
  by_cases hxch : (sliceLow sz data).getLsbD s.cfg.tcrXchBit = true
  · obtain ⟨es, hes, hiff⟩ := s.burst_emits
    refine ⟨es, ?_, hiff.trans (and_iff_right hxch).symm⟩
    rw [if_pos hxch]
    exact hes
  · rw [if_neg hxch]
    exact .of_eq rfl (not_and_of_not_left _ hxch)

/-- Every operation of S completes, and logs a diagnostic just if R152 lists it. -/
theorem exec_spi_emits {i : Instr} (hi : blockOf i = .spi) (s : State) :
    ∃ t, exec i s = .next t ∧ Emits s t (SpiLogs s i) := by
  cases i with
  | sWTcr sz data => exact exec_sWTcr_emits s sz data
  | sWFsr | sRTxd | sWRxd | sRUnknown | sWUnknown => exact ⟨_, rfl, .of_diag rfl (by simp [SpiLogs])⟩
  | sRGcr | sWGcr | sRTcr | sRIer | sWIer | sRIsr | sWIsr | sRFcr | sWFcr | sRFsr | sRWcr | sWWcr | sRCcr | sWCcr
  | sRMbc | sWMbc | sRMtc | sWMtc | sRBcc | sWBcc | sRDmactl | sWDmactl | sWTxd | sRRxd =>
    exact ⟨_, rfl, .of_eq rfl (by simp [SpiLogs])⟩
  | _ => nomatch hi

/-- Settles O27, operation by operation in `exec_spi_emits`. -/
theorem onlyTheseSpiOperationsLog : Obligations.OnlyTheseSpiOperationsLog := by
  intro i s hi
  obtain ⟨t, he, es, hes, hiff⟩ := exec_spi_emits hi s
  exact ⟨t, es, he, hes, hiff⟩

end Sys2Proof.Machine
end

section
/-! SUPPORT. The transfer-control write (spec/42_spi_burst.md R160 to R167, R170, R171): its two paths, with the burst
and without, each followed by the store. -/

namespace Sys2Proof.Machine

/-- Clearing a bit that is clear changes nothing. -/
theorem clearBit_of_getLsbD_eq_false {k : Fin 32} {v : Word} (h : v.getLsbD k = false) : clearBit k v = v := by
  apply BitVec.eq_of_getLsbD_eq
  intro i hi
  simp only [clearBit, bit, BitVec.getLsbD_and, BitVec.getLsbD_not, BitVec.getLsbD_ofNat, Nat.testBit_two_pow]
  by_cases hik : i = k
  · rw [hik, h, Bool.false_and]
  · simp [hi, Ne.symm hik]

section Write

variable {s : State} {sz : SpiSize} {data : Word}

/-- Without the start bit a TCR write is its store (R160, R165). -/
theorem exec_sWTcr_of_stopped (h : (sliceLow sz data).getLsbD s.cfg.tcrXchBit = false) :
    exec (.sWTcr sz data) s = .next (s.storeTcr (sliceLow sz data)).complete := by
  have hrow : exec (.sWTcr sz data) s = execSWTcr sz data s := rfl
  simp only [hrow, execSWTcr, writeValue_eq_sliceLow, h, Bool.false_eq_true, if_false]

/-- With the start bit a TCR write is a burst and then its store (R160, R165). -/
theorem exec_sWTcr_of_started (h : (sliceLow sz data).getLsbD s.cfg.tcrXchBit = true) :
    exec (.sWTcr sz data) s = .next (s.burst.storeTcr (sliceLow sz data)).complete := by
  have hrow : exec (.sWTcr sz data) s = execSWTcr sz data s := rfl
  simp only [hrow, execSWTcr, writeValue_eq_sliceLow, h, if_true]

end Write

/-- Settles O28: the store clears a start bit that is clear. -/
theorem transferControlWriteWithoutStartStores : Obligations.TransferControlWriteWithoutStartStores := by
  intro s sz data hxch
  rw [exec_sWTcr_of_stopped hxch, State.storeTcr, clearBit_of_getLsbD_eq_false hxch]
  rfl

/-- Settles O29: the burst of length 0 is its warning, and the store follows. -/
theorem burstOfLengthZeroAborts : Obligations.BurstOfLengthZeroAborts := by
  refine ⟨rfl, fun s sz data hxch hzero => ?_⟩
  rw [exec_sWTcr_of_started hxch, s.burst_zero ((declaredLength_eq _).trans hzero)]
  rfl

/-- Settles O30: the two cases of the declared length, each followed by the store; a queue within the variant's depth
has that depth as its capacity. -/
theorem burstSummary : Obligations.BurstSummary := by
  obtain ⟨hwarning, haborts⟩ := burstOfLengthZeroAborts
  refine ⟨hwarning, rfl, fun s sz data hgood hxch => ⟨haborts s sz data hxch, fun hnonzero => ?_⟩⟩
  rw [← declaredLength_eq] at hnonzero ⊢
  obtain ⟨answers, rest, hlength, hdrawn, hburst⟩ := s.burst_spec hnonzero (hgood.rxCap ▸ hgood.rxLen)
  refine ⟨answers, rest, hlength, hdrawn, ?_⟩
  rw [exec_sWTcr_of_started hxch, hburst, ← hgood.rxCap]
  rfl

/-- Settles O31: with K = 0 the burst aborts and no answer is drawn; else it is the burst of O30, whose answers RX takes
up to its depth. -/
theorem burstOfExactlyTheQueuedWords : Obligations.BurstOfExactlyTheQueuedWords := by
  intro s sz data K hgood hxch htx hmbc
  have hrx := hgood.rxLen
  have hdepth := htx ▸ hgood.txLen
  obtain ⟨-, -, hsummary⟩ := burstSummary
  obtain ⟨hzero, hnonzero⟩ := hsummary s sz data hgood hxch
  by_cases hK : K = 0
  · subst hK
    have hempty := List.length_eq_zero_iff.mp htx
    exact ⟨_, [], s.script.exchanges, hzero hmbc, rfl, ⟨by simp, by simp⟩, hempty, getLsbD_clearBit _ _,
      (Nat.min_eq_left hrx).symm, id⟩
  · obtain ⟨answers, rest, hlength, hdrawn, he⟩ := hnonzero (hmbc ▸ hK)
    rw [htx] at hlength
    refine ⟨_, answers, rest, he, hlength, hdrawn, rfl, getLsbD_clearBit _ _, ?_, fun hnone => ?_⟩
    · simp only [List.length_append, List.length_take, hlength]
      omega
    · simp only [hnone, List.nil_append, List.length_nil]
      exact List.take_of_length_le (by omega)

/-- Settles O32: the burst, if any, changes the queues, the history and the answers still listed; the store changes
TCR. -/
theorem burstChangesOnlyQueuesAndHistory : Obligations.BurstChangesOnlyQueuesAndHistory := by
  intro s sz data
  cases hxch : (sliceLow sz data).getLsbD s.cfg.tcrXchBit with
  | false =>
    refine ⟨s.spi.tx, s.spi.rx, [], s.script.exchanges, ?_⟩
    rw [exec_sWTcr_of_stopped hxch, List.append_nil]
    rfl
  | true =>
    obtain ⟨tx, rx, es, rest, hburst⟩ := s.burst_frame
    refine ⟨tx, rx, es, rest, ?_⟩
    rw [exec_sWTcr_of_started hxch, hburst]
    rfl

end Sys2Proof.Machine
end

section
/-! SUPPORT. What a burst reads (spec/42_spi_burst.md R168): the word loop does the same in two states that agree on the
queues, the history and the environment. -/

namespace Sys2Proof.Machine

/-- Two states that the word loop cannot tell apart. -/
structure BurstAlike (s s' : State) : Prop where
  tx : s.spi.tx = s'.spi.tx
  rx : s.spi.rx = s'.spi.rx
  history : s.history = s'.history
  script : s.script = s'.script

namespace BurstAlike

variable {s s' : State}

/-- The environment sees the history and its script only, so it answers both alike (R52). -/
theorem exchange (h : BurstAlike s s') (w : Word) :
    (s.exchange w).1 = (s'.exchange w).1 ∧ BurstAlike (s.exchange w).2 (s'.exchange w).2 := by
  obtain ⟨htx, hrx, hhistory, hscript⟩ := h
  simp only [State.exchange, hhistory, hscript]
  split
  · exact ⟨rfl, htx, hrx, by simp [hhistory], hscript⟩
  · exact ⟨rfl, htx, hrx, by simp [hhistory], rfl⟩

theorem burstWord (h : BurstAlike s s') : BurstAlike s.burstWord s'.burstWord := by
  have hpopped : BurstAlike (s.setSpi { s.spi with tx := s.spi.tx.pop.2 })
      (s'.setSpi { s'.spi with tx := s'.spi.tx.pop.2 }) :=
    ⟨congrArg (·.pop.2) h.tx, h.rx, h.history, h.script⟩
  obtain ⟨hanswer, hafter⟩ := hpopped.exchange s.spi.tx.pop.1
  simp only [State.burstWord, ← h.tx, hanswer, hafter.rx] at hanswer hafter ⊢
  split
  · exact hafter
  · exact ⟨hafter.tx, by simp, hafter.history, hafter.script⟩

theorem burstLoop (h : BurstAlike s s') (n : Nat) : BurstAlike (s.burstLoop n) (s'.burstLoop n) := by
  induction n generalizing s s' with
  | zero => exact h
  | succ n ih => exact ih h.burstWord

theorem log (h : BurstAlike s s') (u : Block) (code : DiagCode) (off : Offset) (info : DiagInfo) :
    BurstAlike (s.log u code off info) (s'.log u code off info) :=
  ⟨h.tx, h.rx, congrArg (· ++ [Event.diag u code off info]) h.history, h.script⟩

/-- Beside what the word loop reads, a burst reads the declared length (R161 to R164). -/
theorem burst (h : BurstAlike s s') (hlength : declaredLength s.spi = declaredLength s'.spi) :
    BurstAlike s.burst s'.burst := by
  simp only [State.burst, hlength, h.tx]
  split
  · exact h.log ..
  · split
    · exact (h.log ..).burstLoop _
    · exact h.burstLoop _

/-- The store and the completion of a TCR write touch nothing the word loop reads. -/
theorem storeTcr_complete (h : BurstAlike s s') (v v' : Word) :
    BurstAlike (s.storeTcr v).complete (s'.storeTcr v').complete :=
  ⟨h.tx, h.rx, h.history, h.script⟩

end BurstAlike

/-- Settles O34: both writes start a burst or neither does, and the bursts do the same. -/
theorem burstReadsOnlyLengthQueuesAndStartBit : Obligations.BurstReadsOnlyLengthQueuesAndStartBit := by
  intro s s' sz sz' data data' hlength htx hrx hxch hhistory hscript
  have halike : BurstAlike s s' := ⟨htx, hrx, hhistory, hscript⟩
  rw [← declaredLength_eq, ← declaredLength_eq] at hlength
  have hboth : ∃ t t', exec (.sWTcr sz data) s = .next t ∧ exec (.sWTcr sz' data') s' = .next t' ∧
      BurstAlike t t' := by
    cases hx : (sliceLow sz data).getLsbD s.cfg.tcrXchBit with
    | false =>
      exact ⟨_, _, exec_sWTcr_of_stopped hx, exec_sWTcr_of_stopped (hxch.symm.trans hx),
        halike.storeTcr_complete _ _⟩
    | true =>
      exact ⟨_, _, exec_sWTcr_of_started hx, exec_sWTcr_of_started (hxch.symm.trans hx),
        (halike.burst hlength).storeTcr_complete _ _⟩
  obtain ⟨t, t', he, he', ⟨htx', hrx', hhistory', hscript'⟩⟩ := hboth
  exact ⟨t, t', he, he', htx', hrx', hhistory', hscript'⟩

end Sys2Proof.Machine
end

section
/-! SUPPORT. Where the events of a burst come from (spec/42_spi_burst.md R172): from a TCR write with the start bit set,
which at bit 31 only a whole word sets. -/

namespace Sys2Proof.Machine

/-- An exchange, or one of the two warnings of a burst (R162 to R164). -/
def isBurstEvent : Event → Bool
  | .exchange _ _ => true
  | .diag .spi .burstZero _ _ => true
  | .diag .spi .burstMismatch _ _ => true
  | _ => false

theorem isBurstEvent_iff {e : Event} : isBurstEvent e = true ↔
    isExchange e = true ∨ (∃ off info, e = .diag .spi .burstZero off info) ∨
      ∃ off info, e = .diag .spi .burstMismatch off info := by
  cases e with
  | exchange | lookup | powerOn | powerOff => simp [isBurstEvent, isExchange]
  | diag u code off info => cases u <;> cases code <;> simp [isBurstEvent, isExchange]

/-- `t` extends the history of `s` by no event of a burst. -/
def EmitsNoBurst (s t : State) : Prop :=
  ∃ es, t.history = s.history ++ es ∧ ∀ e ∈ es, isBurstEvent e = false

section NoBurst

variable {s t : State}

theorem EmitsNoBurst.of_eq (h : t.history = s.history) : EmitsNoBurst s t :=
  ⟨[], by rw [h, List.append_nil], nofun⟩

theorem EmitsNoBurst.of_event {e : Event} (h : t.history = s.history ++ [e]) (he : isBurstEvent e = false) :
    EmitsNoBurst s t :=
  ⟨[e], h, by simpa using he⟩

variable (s)

/-- A request for a core emits events of the registry and of the lifecycle manager, and their errors (R184 to R188). -/
theorem State.writeRstCtrl_emitsNoBurst (n : CoreId) (v : Word) : EmitsNoBurst s (s.writeRstCtrl n v) := by
  by_cases hv : v = 0
  · subst hv
    exact .of_eq rfl
  · rw [s.writeRstCtrl_of_ne n v hv]
    obtain ⟨h, ls, -, ⟨-, he⟩ | ⟨c, r, ps, -, -, he⟩⟩ := s.resetCore_spec n (CpucfgReg.offset s.cfg (.rstCtrl n))
    · exact .of_event (congrArg (·.complete.history) he) rfl
    · rw [he]
      exact ⟨_, List.append_assoc .., by cases r <;> simp [isBurstEvent]⟩

theorem State.readR40_emitsNoBurst (r : R40Reg) : EmitsNoBurst s (s.readR40 r) := by
  cases hv : s.cfg.variant with
  | base => exact .of_event (by rw [s.readR40_base hv]) rfl
  | r40 => exact .of_eq (by rw [s.readR40_r40 hv])

theorem State.writeR40_emitsNoBurst (r : R40Reg) (v : Word) : EmitsNoBurst s (s.writeR40 r v) := by
  cases hv : s.cfg.variant with
  | base => exact .of_event (by rw [s.writeR40_base hv]) rfl
  | r40 => exact .of_eq (by rw [s.writeR40_r40 hv])

/-- A power switch asks the lifecycle manager, and logs its error (R207 to R209). -/
theorem State.writePsw_emitsNoBurst (n : CoreId) (v : Word) : EmitsNoBurst s (s.writePsw n v) := by
  cases hv : s.cfg.variant with
  | base => exact .of_event (by rw [s.writePsw_base hv]) rfl
  | r40 =>
    by_cases hff : v = 0x000000FF
    · subst hff
      obtain ⟨r, ps, -, he⟩ := s.writePsw_off hv n
      rw [he]
      exact ⟨_, List.append_assoc .., by cases r <;> simp [isBurstEvent]⟩
    · exact .of_eq (by rw [s.writePsw_of_ne hv n v hff])

/-- An operation that is no TCR write emits no event of a burst. -/
theorem exec_emitsNoBurst {i : Instr} (hi : ∀ sz data, i ≠ .sWTcr sz data) :
    ∃ t, exec i s = .next t ∧ EmitsNoBurst s t := by
  cases i with
  | sWTcr sz data => exact absurd rfl (hi sz data)
  | cWRstCtrl0 v | cWRstCtrl1 v | cWRstCtrl2 v | cWRstCtrl3 v => exact ⟨_, rfl, s.writeRstCtrl_emitsNoBurst _ v⟩
  | cRPwroffGating | cRPsw0 | cRPsw1 | cRPsw2 | cRPsw3 | cRPswDelay | cRCfgDelay | cRPwrdnCfg
  | cRPwrupCfg0 | cRPwrupCfg1 | cRPwrupCfg2 | cRPwrupCfg3 | cRPwrupCfg4 | cRPwrupCfg5 =>
    exact ⟨_, rfl, s.readR40_emitsNoBurst _⟩
  | cWPsw0 v | cWPsw1 v | cWPsw2 v | cWPsw3 v => exact ⟨_, rfl, s.writePsw_emitsNoBurst _ v⟩
  | cWPwroffGating v | cWPswDelay v | cWCfgDelay v | cWPwrdnCfg v | cWPwrupCfg0 v | cWPwrupCfg1 v | cWPwrupCfg2 v
  | cWPwrupCfg3 v | cWPwrupCfg4 v | cWPwrupCfg5 v => exact ⟨_, rfl, s.writeR40_emitsNoBurst _ v⟩
  | sWFsr | sRTxd | sWRxd | sRUnknown | sWUnknown | cRUnimpDbgExtern | cWUnimpDbgExtern | cRUnimpCnt64Ctrl
  | cWUnimpCnt64Ctrl | cRUnimpCnt64Low | cWUnimpCnt64Low | cRUnimpCnt64High | cWUnimpCnt64High | cRUnknown
  | cWUnknown => exact ⟨_, rfl, .of_event rfl rfl⟩
  | _ => exact ⟨_, rfl, .of_eq rfl⟩

variable {s}

/-- None of the new events is one of a burst. -/
theorem EmitsNoBurst.drop (h : EmitsNoBurst s t) {e : Event} (he : e ∈ t.history.drop s.history.length) :
    isBurstEvent e = false := by
  obtain ⟨es, hes, hall⟩ := h
  rw [hes, List.drop_left] at he
  exact hall e he

/-- An event of a burst comes from a TCR write with the start bit set. -/
theorem exec_burstEvent {i : Instr} {e : Event} (hexec : exec i s = .next t)
    (he : e ∈ t.history.drop s.history.length) (hburst : isBurstEvent e = true) :
    ∃ sz data, i = .sWTcr sz data ∧ (sliceLow sz data).getLsbD s.cfg.tcrXchBit = true := by
  have hemits : ¬ EmitsNoBurst s t := fun h => Bool.false_ne_true ((h.drop he).symm.trans hburst)
  by_cases hi : ∃ sz data, i = .sWTcr sz data
  · obtain ⟨sz, data, rfl⟩ := hi
    refine ⟨sz, data, rfl, ?_⟩
    by_contra hxch
    rw [exec_sWTcr_of_stopped (Bool.eq_false_of_not_eq_true hxch)] at hexec
    obtain rfl := Host.Outcome.next.inj hexec
    exact hemits (.of_eq rfl)
  · obtain ⟨u, hu, hnone⟩ := exec_emitsNoBurst s (fun sz data h => hi ⟨sz, data, h⟩)
    obtain rfl := Host.Outcome.next.inj (hexec.symm.trans hu)
    exact absurd hnone hemits

end NoBurst

/-- Only a whole word delivers a bit 31 (R66, R160). -/
theorem eq_b4_of_sliceLow_getLsbD {sz : SpiSize} {w : Word} (h : (sliceLow sz w).getLsbD 31 = true) : sz = .b4 := by
  cases sz with
  | b4 => rfl
  | b1 | b2 =>
    rw [← lowBytes_eq_sliceLow, lowBytes, BitVec.getLsbD_and] at h
    obtain ⟨-, hmask⟩ := Bool.and_eq_true_iff.mp h
    exact absurd hmask (by decide)

/-- An access that decodes to a TCR write whose bit 31 is set is the 4-byte write at 0x008 with bit 31 of its data set
(R88, R172). -/
theorem desc_data_of_decode_sWTcr {cfg : Config} {a : Access} {sz : SpiSize} {data : Word}
    (h : decode cfg a = .ok (.sWTcr sz data)) (hbit : (sliceLow sz data).getLsbD 31 = true) :
    a.desc = 0x1C08 ∧ a.data.getLsbD 31 = true := by
  obtain rfl := eq_b4_of_sliceLow_getLsbD hbit
  obtain ⟨-, hdesc, hdata⟩ := decodeDropsNoBit cfg a _ h
  have hword : a.desc = 0x1C08 := hdesc.symm
  rw [hword] at hdata
  have hsame : data = a.data :=
    BitVec.eq_of_toNat_eq ((hdata (by decide)).trans (Nat.mod_eq_of_lt a.data.isLt))
  rw [sliceLow_b4, hsame] at hbit
  exact ⟨hword, hbit⟩

/-- An access that does not decode is refused (R87, R233). -/
theorem State.serve_access_of_decode_error {s : State} {a : Access} {r : RefuseReason}
    (hd : decode s.cfg a = .error r) : s.serve (.access a) = s.refuse r := by
  rw [State.serve, State.serveAccess, hd]

/-- Settles O33: a refused access emits nothing, and an accepted one that emits an event of a burst is the TCR write
with bit 31 set. -/
theorem onlyAWholeTransferControlWriteStartsABurst : Obligations.OnlyAWholeTransferControlWriteStartsABurst := by
  intro s t a rest e hbit hp hstep he hkind
  cases hd : decode s.cfg a with
  | error r =>
    have hserve : (s.setPending rest).serve (.access a) = (s.setPending rest).refuse r :=
      State.serve_access_of_decode_error hd
    rw [step_of_serve_eq_refuse hp hserve] at hstep
    obtain rfl := Host.Outcome.next.inj hstep
    exact absurd he (by simp)
  | ok i =>
    rw [stepRunsTheDecodedOperation s a i rest hp hd] at hstep
    obtain ⟨sz, data, rfl, hxch⟩ := exec_burstEvent hstep he (isBurstEvent_iff.mpr hkind)
    have hxch31 : (sliceLow sz data).getLsbD (31 : Fin 32) = true := hbit ▸ hxch
    exact desc_data_of_decode_sWTcr hd hxch31

end Sys2Proof.Machine
end

section
/-! SUPPORT. The operations of block C (spec/43_cpucfg.md R182 to R217), by row of R89 to R91: the meaning of a row's
read and write, whichever core, register or counter the row is for. -/

namespace Sys2Proof.Machine

variable (s : State) (v : Word)

theorem exec_readRstCtrl (n : CoreId) : exec (cpucfgReadInstr (.rstCtrl n)) s = .next s.readRstCtrl := by
  fin_cases n <;> rfl

theorem exec_writeRstCtrl (n : CoreId) :
    exec (cpucfgWriteInstr v (.rstCtrl n)) s = .next (s.writeRstCtrl n v) := by
  fin_cases n <;> rfl

theorem exec_readCtrl (n : CoreId) : exec (cpucfgReadInstr (.ctrl n)) s = .next s.readCtrl := by
  fin_cases n <;> rfl

theorem exec_writeCtrl (n : CoreId) : exec (cpucfgWriteInstr v (.ctrl n)) s = .next (s.ignoreWrite v) := by
  fin_cases n <;> rfl

theorem exec_readStatus (n : CoreId) : exec (cpucfgReadInstr (.status n)) s = .next s.readStatus := by
  fin_cases n <;> rfl

theorem exec_writeStatus (n : CoreId) : exec (cpucfgWriteInstr v (.status n)) s = .next (s.ignoreWrite v) := by
  fin_cases n <;> rfl

theorem exec_readUnimp (u : UnimpReg) :
    exec (cpucfgReadInstr (.unimp u)) s = .next (s.cpucfgRejectRead .unimp u.offset) := by
  cases u <;> rfl

theorem exec_writeUnimp (u : UnimpReg) :
    exec (cpucfgWriteInstr v (.unimp u)) s = .next (s.cpucfgRejectWrite .unimp u.offset v) := by
  cases u <;> rfl

theorem exec_r40ReadInstr (r : R40Reg) : exec (r40ReadInstr r) s = .next (s.readR40 r) := by
  cases r with
  | psw n => fin_cases n <;> rfl
  | pwrupCfg k => fin_cases k <;> rfl
  | pwroffGating | pswDelay | cfgDelay | pwrdnCfg => rfl

/-- The write of an r40 register that is no power switch only stores (R205, R211, R213, R215, R217). -/
theorem exec_r40WriteInstr_of_ne_psw {r : R40Reg} (hr : ∀ n, r ≠ .psw n) :
    exec (r40WriteInstr v r) s = .next (s.writeR40 r v) := by
  cases r with
  | psw n => exact absurd rfl (hr n)
  | pwrupCfg k => fin_cases k <;> rfl
  | pwroffGating | pswDelay | cfgDelay | pwrdnCfg => rfl

/-- The write of a power switch stores and may switch (R207). -/
theorem exec_r40WriteInstr_psw (n : CoreId) : exec (r40WriteInstr v (.psw n)) s = .next (s.writePsw n v) := by
  fin_cases n <;> rfl

/-- A rejected read of C logs one diagnostic and returns 0 (R199, R201). -/
theorem State.cpucfgRejectRead_eq (code : DiagCode) (off : Offset) : s.cpucfgRejectRead code off = { s with
    history := s.history ++ [.diag .cpucfg code off .none]
    replies := s.replies ++ [.value 4 0] } := rfl

/-- A rejected write of C logs one diagnostic with the value and completes (R200, R202). -/
theorem State.cpucfgRejectWrite_eq (code : DiagCode) (off : Offset) : s.cpucfgRejectWrite code off v = { s with
    history := s.history ++ [.diag .cpucfg code off (.value v)]
    replies := s.replies ++ [.done] } := rfl

/-- Settles O35: the listed reads are the rows of the four cores, each a constant of the configuration. -/
theorem constantReadsOfCpucfg : Obligations.ConstantReadsOfCpucfg := by
  intro s
  refine ⟨?_, ?_, ?_⟩
  · change ∀ i ∈ (List.finRange 4).map fun n => cpucfgReadInstr (.rstCtrl n), _
    exact List.forall_mem_map.mpr fun n _ => exec_readRstCtrl s n
  · change ∀ i ∈ (List.finRange 4).map fun n => cpucfgReadInstr (.ctrl n), _
    exact List.forall_mem_map.mpr fun n _ => exec_readCtrl s n
  · change ∀ i ∈ (List.finRange 4).map fun n => cpucfgReadInstr (.status n), _
    exact List.forall_mem_map.mpr fun n _ => exec_readStatus s n

/-- Settles O36: the listed writes are the rows of the four cores, each completed and no more. -/
theorem controlAndStatusWritesAreIgnored : Obligations.ControlAndStatusWritesAreIgnored := by
  intro s v
  change ∀ i ∈ ((List.finRange 4).map fun n => cpucfgWriteInstr v (.ctrl n)) ++
    (List.finRange 4).map fun n => cpucfgWriteInstr v (.status n), _
  exact List.forall_mem_append.mpr ⟨List.forall_mem_map.mpr fun n _ => exec_writeCtrl s v n,
    List.forall_mem_map.mpr fun n _ => exec_writeStatus s v n⟩

/-- Settles O37: a read returns the register, so after the reset event what that loaded (R263). -/
theorem cpucfgStorageRegisters : Obligations.CpucfgStorageRegisters := by
  intro s v
  have hgen : ∀ t : State, exec .cRGenCtrl t =
      .next { t with replies := t.replies ++ [.value 4 t.cpucfg.genCtrl] } := fun _ => rfl
  have hstandby : ∀ t : State, exec .cRSuperStandby t =
      .next { t with replies := t.replies ++ [.value 4 t.cpucfg.superStandby] } := fun _ => rfl
  have hentry : ∀ t : State, exec .cREntryAddr t =
      .next { t with replies := t.replies ++ [.value 4 t.cpucfg.entryAddr] } := fun _ => rfl
  exact ⟨hgen s, hstandby s, hentry s, rfl, rfl, rfl, hgen _, hstandby _, hentry _⟩

/-- Settles O38: each listed operation is the rejected read or write at its offset. -/
theorem cpucfgUnimplementedAndUnknownOnlyLog : Obligations.CpucfgUnimplementedAndUnknownOnlyLog := by
  refine ⟨rfl, rfl, fun s v => ⟨?_, fun off => ⟨congrArg Host.Outcome.next (s.cpucfgRejectRead_eq ..),
    congrArg Host.Outcome.next (s.cpucfgRejectWrite_eq ..)⟩⟩⟩
  change ∀ p ∈ [UnimpReg.dbgExtern, .cnt64Ctrl, .cnt64Low, .cnt64High].map fun u =>
    (u.offset, cpucfgReadInstr (.unimp u), cpucfgWriteInstr v (.unimp u)), _
  exact List.forall_mem_map.mpr fun u _ => ⟨(exec_readUnimp s u).trans (congrArg _ (s.cpucfgRejectRead_eq ..)),
    (exec_writeUnimp s v u).trans (congrArg _ (s.cpucfgRejectWrite_eq ..))⟩

/-- Settles O39: the listed writes are the rows of the four cores, and a nonzero value is one reset_core, completed. -/
theorem resetControlWriteStartsTheCore : Obligations.ResetControlWriteStartsTheCore := by
  refine ⟨rfl, fun s v => ?_⟩
  change ∀ p ∈ (List.finRange 4).map fun n => (n, cpucfgWriteInstr v (.rstCtrl n)), _
  refine List.forall_mem_map.mpr fun n _ => ⟨?_, fun hv => ?_⟩
  · rintro rfl
    exact (exec_writeRstCtrl s 0 n).trans (congrArg _ (s.writeRstCtrl_zero n))
  · have hexec : exec (cpucfgWriteInstr v (.rstCtrl n)) s =
        .next (s.resetCore n (BitVec.ofNat 10 (0x40 + 0x40 * n.val))).complete :=
      (exec_writeRstCtrl s v n).trans (congrArg _ (s.writeRstCtrl_of_ne n v hv))
    obtain ⟨h, ls, hlookup, hcore⟩ := s.resetCore_spec n (BitVec.ofNat 10 (0x40 + 0x40 * n.val))
    refine ⟨h, ls, hlookup, ?_⟩
    obtain ⟨hnone, he⟩ | ⟨c, r, ps, hsome, hpower, he⟩ := hcore <;> rw [he] at hexec
    · exact .inl ⟨hnone, hexec⟩
    · exact .inr ⟨c, r, ps, hsome, hpower, hexec⟩

end Sys2Proof.Machine
end

section
/-! SUPPORT. The r40 registers (spec/43_cpucfg.md R203 to R218): the layout as a bijection, the register file, the power
switches, and the slots in the base variant. -/

namespace Sys2Proof.Machine

/-- Fourteen slots for the fourteen registers leave no register two of them (R203). -/
theorem nodup_of_layoutOk {l : List R40Reg} (h : layoutOk l = true) : l.Nodup := by
  obtain ⟨hlength, hmem⟩ := (layoutOk_iff l).mp h
  have hall : R40Reg.all.Nodup := by decide
  have hsub : R40Reg.all.Subperm l := hall.subperm fun r _ => hmem r
  exact (hsub.perm_of_length_le hlength.le).nodup_iff.mp hall

/-- Every slot holds a register (R203). -/
theorem exists_r40Offset_toNat_eq {l : List R40Reg} (h : layoutOk l = true) {k : Nat} (hk : k < 14) :
    ∃ r, (r40Offset l r).toNat = 0x140 + 4 * k := by
  obtain ⟨hlength, -⟩ := (layoutOk_iff l).mp h
  have hslot : k < l.length := hlength ▸ hk
  exact ⟨l[k], by rw [r40Offset_toNat h, (nodup_of_layoutOk h).idxOf_getElem k hslot]⟩

/-- Settles O7: a register's slot is its place in the layout, and decode finds the row there. -/
theorem r40LayoutIsABijectionThatDecodeFollows : Obligations.R40LayoutIsABijectionThatDecodeFollows := by
  refine ⟨fun l hl => ⟨?_, fun r r' => r40Offset_injective hl, fun k => exists_r40Offset_toNat_eq hl⟩,
    by decide, fun cfg r w hcfg hv => ?_⟩
  · exact r40Offset_range (cfg := { standardConfig with r40Layout := l }) hl
  · have hl := layoutOk_of_wf hcfg
    have hpresent : (CpucfgReg.r40 r).present cfg = true := beq_iff_eq.mpr hv
    exact ⟨decode_cpucfgRead_row (r := .r40 r) hl hpresent, decode_cpucfgWrite_row (r := .r40 r) hl hpresent⟩

/-- In the base variant an aligned offset of the fourteen slots names no register, whatever the layout (R218). -/
theorem cpucfgUnknownOk_slot_of_base {cfg : Config} {off : Offset} (hv : cfg.variant = .base)
    (hlo : 0x140 ≤ off.toNat) (hhi : off.toNat ≤ 0x174) (halign : off.toNat % 4 = 0) :
    cpucfgUnknownOk cfg off = true := by
  have hnone : CpucfgReg.ofOffset cfg off = none := by
    refine List.find?_eq_none.mpr fun r hr he => ?_
    obtain rfl := eq_of_beq he
    obtain hfixed | ⟨x, rfl⟩ := r.mem_fixed_or_r40
    · exact (CpucfgReg.offset_range_of_mem_fixed hfixed cfg).2 ⟨hlo, hhi⟩
    · have hr40 : cfg.variant = .r40 := eq_of_beq ((CpucfgReg.mem_cpucfgMap_iff cfg _).mp hr)
      rw [hv] at hr40
      nomatch hr40
  rw [cpucfgUnknownOk, hnone, halign]
  rfl

/-- Settles O8: a slot's access decodes to an unknown-offset operation, which is the step. -/
theorem baseVariantR40SlotsAreUnknownOffsets : Obligations.BaseVariantR40SlotsAreUnknownOffsets := by
  intro s off v rest hv hlo hhi halign
  have hunknown := cpucfgUnknownOk_slot_of_base hv hlo hhi halign
  obtain ⟨-, -, hlogs⟩ := cpucfgUnimplementedAndUnknownOnlyLog
  obtain ⟨-, hexec⟩ := hlogs { s with pending := rest } v
  obtain ⟨hread, hwrite⟩ := hexec off
  exact ⟨fun hp => (stepRunsTheDecodedOperation s _ _ rest hp (decode_cpucfgRead_unknown hunknown)).trans hread,
    fun hp => (stepRunsTheDecodedOperation s _ _ rest hp (decode_cpucfgWrite_unknown hunknown)).trans hwrite⟩

theorem readReg40_writeReg40_self (f : R40Regs) (r : R40Reg) (v : Word) :
    readReg40 (writeReg40 f r v) r = v := by
  rw [readReg40_writeReg40, if_pos rfl]

theorem readReg40_writeReg40_of_ne (f : R40Regs) {r r' : R40Reg} (h : r' ≠ r) (v : Word) :
    readReg40 (writeReg40 f r v) r' = readReg40 f r' := by
  rw [readReg40_writeReg40, if_neg h]

/-- In the r40 variant a reset of C loads the fourteen reset constants (R264). -/
theorem resetEvent_cpucfg_r40 {s : State} (hv : s.cfg.variant = .r40) :
    (s.resetEvent .cpucfg).cpucfg.r40 = s.cfg.r40Reset :=
  if_pos hv

/-- Settles O40: a read returns the register file at its register, and a write replaces it there. -/
theorem r40RegistersAreStorage : Obligations.R40RegistersAreStorage := by
  intro s v hv
  have hread : ∀ t : State, t.cfg.variant = .r40 → ∀ r, exec (r40ReadInstr r) t =
      .next { t with replies := t.replies ++ [.value 4 (readReg40 t.cpucfg.r40 r)] } := fun t ht r =>
    (exec_r40ReadInstr t r).trans (congrArg _ (t.readR40_r40 ht r))
  refine ⟨hread s hv, fun r hr => ⟨writeReg40 s.cpucfg.r40 r v, ?_, readReg40_writeReg40_self .., ?_⟩, ?_⟩
  · rw [exec_r40WriteInstr_of_ne_psw s v hr, s.writeR40_r40 hv]
  · exact fun r' hne => readReg40_writeReg40_of_ne _ hne v
  · intro t r
    rw [← resetEvent_cpucfg_r40 hv]
    exact hread t (by rwa [State.resetEvent_cfg]) r

/-- Settles O41: the listed writes are the rows of the four power switches, and the stored file is the one the write
replaces its register in. -/
theorem powerSwitchWrite : Obligations.PowerSwitchWrite := by
  refine ⟨rfl, fun s v hv => ?_⟩
  change ∀ p ∈ (List.finRange 4).map fun n => (n, r40WriteInstr v (.psw n)), _
  refine List.forall_mem_map.mpr fun n _ => ⟨writeReg40 s.cpucfg.r40 (.psw n) v, readReg40_writeReg40_self ..,
    fun r' hne => readReg40_writeReg40_of_ne _ hne v, fun hne => ?_, ?_⟩
  · exact (exec_r40WriteInstr_psw s v n).trans (congrArg _ (s.writePsw_of_ne hv n v hne))
  · rintro rfl
    obtain ⟨r, ps, hdrawn, he⟩ := s.writePsw_off hv n
    exact ⟨r, ps, hdrawn, (exec_r40WriteInstr_psw s 0xFF n).trans (congrArg _ he)⟩

section PowerSwitch

variable {s : State} {n : CoreId} {v : Word} {rest : List HostMove}

/-- The step of a write at the slot of a power switch is that switch's write (R203, R207). -/
theorem step_writePsw (hcfg : s.cfg.wf = true) (hv : s.cfg.variant = .r40)
    (hp : s.pending = .access (cpucfgWrite (r40Offset s.cfg.r40Layout (.psw n)) v) :: rest) :
    step s = .next ((s.setPending rest).writePsw n v) := by
  obtain ⟨-, -, hdecode⟩ := r40LayoutIsABijectionThatDecodeFollows
  obtain ⟨-, hwrite⟩ := hdecode s.cfg (.psw n) v hcfg hv
  exact (stepRunsTheDecodedOperation s _ _ rest hp hwrite).trans (exec_r40WriteInstr_psw _ v n)

/-- The step of a write of 0xFF there makes one power-off request, and then logs at most an error (R209). -/
theorem step_writePsw_off (hcfg : s.cfg.wf = true) (hv : s.cfg.variant = .r40)
    (hp : s.pending = .access (cpucfgWrite (r40Offset s.cfg.r40Layout (.psw n)) 0xFF) :: rest) :
    ∃ t r es, step s = .next t ∧ t.cfg = s.cfg ∧ t.pending = rest ∧
      t.history = s.history ++ .powerOff n r :: es ∧ ∀ e ∈ es, isDiag e = true := by
  obtain ⟨r, ps, -, he⟩ := (s.setPending rest).writePsw_off hv n
  have hstep := step_writePsw hcfg hv hp
  rw [he] at hstep
  exact ⟨_, r, _, hstep, rfl, rfl, List.append_assoc .., by cases r <;> simp [isDiag]⟩

/-- The step of a write of 0 there stores it and requests nothing (R207, R208). -/
theorem step_writePsw_zero (hcfg : s.cfg.wf = true) (hv : s.cfg.variant = .r40)
    (hp : s.pending = .access (cpucfgWrite (r40Offset s.cfg.r40Layout (.psw n)) 0) :: rest) :
    ∃ t, step s = .next t ∧ t.pending = rest ∧ t.history = s.history ∧ readReg40 t.cpucfg.r40 (.psw n) = 0 := by
  have hstep := step_writePsw hcfg hv hp
  rw [(s.setPending rest).writePsw_of_ne hv n 0 (by decide)] at hstep
  exact ⟨_, hstep, rfl, rfl, readReg40_writeReg40_self s.cpucfg.r40 (.psw n) 0⟩

end PowerSwitch

/-- Settles O42: the write of 0xFF makes the one request, and the write of 0 stores only. -/
theorem powerSwitchOffThenOnRequestsOnce : Obligations.PowerSwitchOffThenOnRequestsOnce := by
  intro s n rest hcfg hv hp
  obtain ⟨t, r, es, hoff, hsame, hpending, hhistory, hdiag⟩ := step_writePsw_off hcfg hv hp
  rw [← hsame] at hcfg hv hpending
  obtain ⟨u, hon, hrest, hkept, hzero⟩ := step_writePsw_zero hcfg hv hpending
  exact ⟨t, u, r, es, hoff, hon, hrest, hkept.trans hhistory, hdiag, hzero⟩

end Sys2Proof.Machine
end

section
/-! SUPPORT. A refused interaction (spec/60_exceptions.md R233; spec/20_memory.md R75): the answer of the step to an
access that does not decode, and to a fetch from a window. -/

namespace Sys2Proof.Machine

/-- A fetch from one block's window is refused, whichever block it is (R75). -/
theorem State.serve_fetch_of_window {s : State} {addr off : Nat} {u : Block}
    (hr : routeAddr s.cfg addr = .window u off) : s.serve (.fetch addr) = s.refuse .fetch := by
  rw [State.serve, State.serveFetch, hr]

/-- An address in exactly one window leads into that window (R60, R61). -/
theorem routeAddr_of_exactly_one {cfg : Config} {addr : Nat}
    (h : cfg.spiBase ≤ addr ∧ addr < cfg.spiBase + 0x400 ∧
        ¬(cfg.cpucfgBase ≤ addr ∧ addr < cfg.cpucfgBase + 0x400) ∨
      cfg.cpucfgBase ≤ addr ∧ addr < cfg.cpucfgBase + 0x400 ∧ ¬(cfg.spiBase ≤ addr ∧ addr < cfg.spiBase + 0x400)) :
    ∃ u off, routeAddr cfg addr = .window u off := by
  obtain ⟨hlo, hhi, hout⟩ | ⟨hlo, hhi, hout⟩ := h
  · exact ⟨_, _, routeAddr_of_only (.inl ⟨rfl, rfl, hout⟩) ⟨hlo, hhi⟩⟩
  · exact ⟨_, _, routeAddr_of_only (.inr ⟨rfl, rfl, hout⟩) ⟨hlo, hhi⟩⟩

/-- Settles O10: taking the interaction off the list keeps the configuration, so the access still fails to decode and
the fetch still leads into its window; either is refused, and the step is that refusal. -/
theorem refusedAccessChangesNothing : Obligations.RefusedAccessChangesNothing := by
  refine ⟨fun s a r rest hp hd => ?_, fun s addr rest hp hwindow => ?_⟩
  · have hserve : (s.setPending rest).serve (.access a) = (s.setPending rest).refuse r :=
      State.serve_access_of_decode_error hd
    exact step_of_serve_eq_refuse hp hserve
  · obtain ⟨u, off, hr⟩ := routeAddr_of_exactly_one hwindow
    have hserve : (s.setPending rest).serve (.fetch addr) = (s.setPending rest).refuse .fetch :=
      State.serve_fetch_of_window hr
    exact step_of_serve_eq_refuse hp hserve

end Sys2Proof.Machine
end

section
/-! SUPPORT. The diagnostics of one operation (spec/60_exceptions.md R236): before a diagnostic an operation emits
neither another diagnostic nor an exchange. -/

namespace Sys2Proof.Machine

/-- `a` may come before `b` among the events of one operation: no diagnostic follows a diagnostic or an exchange. -/
def MayPrecede (a b : Event) : Prop :=
  isDiag b = true → isDiag a = false ∧ isExchange a = false

/-- `t` extends the history of `s` by events of which each may precede every later one. -/
def LogsFirst (s t : State) : Prop :=
  ∃ es, t.history = s.history ++ es ∧ es.Pairwise MayPrecede

section Events

variable {es : List Event}

/-- Anything may come before an exchange. -/
theorem mayPrecede_of_isExchange (a : Event) {b : Event} (hb : isExchange b = true) : MayPrecede a b := by
  intro hdiag
  rw [isDiag_of_isExchange hb] at hdiag
  nomatch hdiag

theorem pairwise_mayPrecede_of_exchanges (hall : ∀ e ∈ es, isExchange e = true) : es.Pairwise MayPrecede :=
  List.pairwise_of_forall_mem_list fun a _ b hb => mayPrecede_of_isExchange a (hall b hb)

/-- Of two diagnostics neither may precede the other, so there are no two. -/
theorem length_filter_isDiag_le_one (h : es.Pairwise MayPrecede) : (es.filter isDiag).length ≤ 1 := by
  have hdiag : ∀ e ∈ es.filter isDiag, isDiag e = true := fun e he => (List.mem_filter.mp he).2
  have hfilter : (es.filter isDiag).Pairwise MayPrecede := h.filter isDiag
  generalize es.filter isDiag = ds at hdiag hfilter
  match ds with
  | [] | [_] => simp
  | a :: b :: _ =>
    obtain ⟨hab, -⟩ := List.pairwise_cons.mp hfilter
    obtain ⟨hnot, -⟩ := hab b List.mem_cons_self (hdiag b (by simp))
    rw [hdiag a List.mem_cons_self] at hnot
    nomatch hnot

/-- No exchange may precede a diagnostic. -/
theorem isExchange_eq_false_of_before {before after : List Event} {d : Event}
    (h : (before ++ d :: after).Pairwise MayPrecede) (hd : isDiag d = true) :
    ∀ e ∈ before, isExchange e = false := by
  intro e he
  obtain ⟨-, -, hcross⟩ := List.pairwise_append.mp h
  obtain ⟨-, hnot⟩ := hcross e he d List.mem_cons_self hd
  exact hnot

end Events

variable {s t : State}

theorem LogsFirst.of_eq (h : t.history = s.history) : LogsFirst s t :=
  ⟨[], by rw [h, List.append_nil], .nil⟩

/-- One event precedes nothing. -/
theorem LogsFirst.of_event {e : Event} (h : t.history = s.history ++ [e]) : LogsFirst s t :=
  ⟨[e], h, List.pairwise_singleton _ _⟩

/-- What a read does to the history is nothing or one diagnostic. -/
theorem ReadStep.logsFirst {i : Instr} (h : ReadStep s i t) : LogsFirst s t := by
  obtain ⟨-, hsame | ⟨-, u, code, off, hdiag⟩⟩ := h
  · exact .of_eq hsame
  · exact .of_event hdiag

variable (s)

/-- A burst logs its warning, if any, before its exchanges (R162 to R164). -/
theorem State.burst_logsFirst : LogsFirst s s.burst := by
  by_cases hz : declaredLength s.spi = 0
  · rw [s.burst_zero hz]
    exact .of_event rfl
  · by_cases hc : declaredLength s.spi = s.spi.tx.count
    · rw [s.burst_of_eq hz hc]
      obtain ⟨es, hes, hall⟩ := s.burstLoop_history (declaredLength s.spi)
      exact ⟨es, hes, pairwise_mayPrecede_of_exchanges hall⟩
    · rw [s.burst_of_ne hz hc]
      obtain ⟨es, hes, hall⟩ := (s.log .spi .burstMismatch SpiReg.tcr.offset
        (.lengths (declaredLength s.spi) s.spi.tx.count)).burstLoop_history s.spi.tx.count
      rw [State.log_history, List.append_assoc] at hes
      exact ⟨_, hes, List.pairwise_cons.mpr
        ⟨fun b hb => mayPrecede_of_isExchange _ (hall b hb), pairwise_mayPrecede_of_exchanges hall⟩⟩

/-- A TCR write emits what its burst emits, and nothing without the start bit (R160, R165). -/
theorem exec_sWTcr_logsFirst (sz : SpiSize) (data : Word) :
    ∃ t, exec (.sWTcr sz data) s = .next t ∧ LogsFirst s t := by
  cases hxch : (sliceLow sz data).getLsbD s.cfg.tcrXchBit with
  | false => exact ⟨_, exec_sWTcr_of_stopped hxch, .of_eq rfl⟩
  | true => exact ⟨_, exec_sWTcr_of_started hxch, s.burst_logsFirst⟩

/-- A request for a core logs at most the failure of its power-on (R184 to R188). -/
theorem State.writeRstCtrl_logsFirst (n : CoreId) (v : Word) : LogsFirst s (s.writeRstCtrl n v) := by
  by_cases hv : v = 0
  · subst hv
    exact .of_eq rfl
  · rw [s.writeRstCtrl_of_ne n v hv]
    obtain ⟨h, ls, -, ⟨-, he⟩ | ⟨c, r, ps, -, -, he⟩⟩ := s.resetCore_spec n (CpucfgReg.offset s.cfg (.rstCtrl n))
    · exact .of_event (congrArg (·.complete.history) he)
    · rw [he]
      exact ⟨_, List.append_assoc .., by cases r <;> simp [MayPrecede, isDiag, isExchange]⟩

theorem State.writeR40_logsFirst (r : R40Reg) (v : Word) : LogsFirst s (s.writeR40 r v) := by
  cases hv : s.cfg.variant with
  | base => exact .of_event (by rw [s.writeR40_base hv])
  | r40 => exact .of_eq (by rw [s.writeR40_r40 hv])

/-- A power switch logs at most the failure of its power-off (R207 to R209). -/
theorem State.writePsw_logsFirst (n : CoreId) (v : Word) : LogsFirst s (s.writePsw n v) := by
  cases hv : s.cfg.variant with
  | base => exact .of_event (by rw [s.writePsw_base hv])
  | r40 =>
    by_cases hff : v = 0x000000FF
    · subst hff
      obtain ⟨r, ps, -, he⟩ := s.writePsw_off hv n
      rw [he]
      exact ⟨_, List.append_assoc .., by cases r <;> simp [MayPrecede, isDiag, isExchange]⟩
    · exact .of_eq (by rw [s.writePsw_of_ne hv n v hff])

/-- What every write does to the history: the writes that start a burst or ask for a core, the r40 writes, the writes
that are rejected, and the writes that only store. -/
theorem exec_write_logsFirst {i : Instr} (hi : dirOf i = .write) : ∃ t, exec i s = .next t ∧ LogsFirst s t := by
  cases i with
  | sWTcr sz data => exact exec_sWTcr_logsFirst s sz data
  | cWRstCtrl0 v | cWRstCtrl1 v | cWRstCtrl2 v | cWRstCtrl3 v => exact ⟨_, rfl, s.writeRstCtrl_logsFirst _ v⟩
  | cWPsw0 v | cWPsw1 v | cWPsw2 v | cWPsw3 v => exact ⟨_, rfl, s.writePsw_logsFirst _ v⟩
  | cWPwroffGating v | cWPswDelay v | cWCfgDelay v | cWPwrdnCfg v | cWPwrupCfg0 v | cWPwrupCfg1 v | cWPwrupCfg2 v
  | cWPwrupCfg3 v | cWPwrupCfg4 v | cWPwrupCfg5 v => exact ⟨_, rfl, s.writeR40_logsFirst _ v⟩
  | sWFsr | sWRxd | sWUnknown | cWUnimpDbgExtern | cWUnimpCnt64Ctrl | cWUnimpCnt64Low | cWUnimpCnt64High | cWUnknown =>
    exact ⟨_, rfl, .of_event rfl⟩
  | sWGcr | sWIer | sWIsr | sWFcr | sWWcr | sWCcr | sWMbc | sWMtc | sWBcc | sWDmactl | sWTxd
  | cWCtrl0 | cWCtrl1 | cWCtrl2 | cWCtrl3 | cWStatus0 | cWStatus1 | cWStatus2 | cWStatus3
  | cWGenCtrl | cWSuperStandby | cWEntryAddr => exact ⟨_, rfl, .of_eq rfl⟩
  | _ => nomatch hi

/-- Every operation completes, and of its events each may precede every later one. -/
theorem exec_logsFirst (i : Instr) : ∃ t, exec i s = .next t ∧ LogsFirst s t := by
  cases hi : dirOf i with
  | read =>
    obtain ⟨t, he, hread⟩ := exec_readStep hi s
    exact ⟨t, he, hread.logsFirst⟩
  | write => exact exec_write_logsFirst s hi

/-- Settles O54: a diagnostic comes after neither another diagnostic nor an exchange of its operation. -/
theorem atMostOneDiagnosticAndWarningsFirst : Obligations.AtMostOneDiagnosticAndWarningsFirst := by
  intro i s
  obtain ⟨t, he, es, hes, hpair⟩ := exec_logsFirst s i
  refine ⟨t, es, he, hes, length_filter_isDiag_le_one hpair, fun before d after hsplit hd => ?_⟩
  rw [hsplit] at hpair
  exact isExchange_eq_false_of_before hpair hd

end Sys2Proof.Machine
end

section
/-! SUPPORT. The reset events (spec/70_reset_and_hazards.md R260 to R269): what a reset of each block loads, that a second
one loads nothing new, and what is left of the state before it. -/

namespace Sys2Proof.Machine

section Blocks

variable {cfg : Config}

/-- Of block S a reset keeps the two capacities only (R261, R262). -/
theorem SpiBlock.resetBlock_eq_of_caps {b b' : SpiBlock} (htx : b.tx.cap = b'.tx.cap) (hrx : b.rx.cap = b'.rx.cap) :
    b.resetBlock = b'.resetBlock := by
  simp only [SpiBlock.resetBlock, WordQueue.reset, htx, hrx]

/-- Blocks S of one configuration are reset alike: their queues have the variant's depth (R25, R269). -/
theorem SpiBlock.Good.resetBlock_eq {b b' : SpiBlock} (h : b.Good cfg) (h' : b'.Good cfg) :
    b.resetBlock = b'.resetBlock :=
  SpiBlock.resetBlock_eq_of_caps (h.txCap.trans h'.txCap.symm) (h.rxCap.trans h'.rxCap.symm)

theorem SpiBlock.resetBlock_resetBlock (b : SpiBlock) : b.resetBlock.resetBlock = b.resetBlock :=
  SpiBlock.resetBlock_eq_of_caps b.tx.reset_cap b.rx.reset_cap

/-- In the r40 variant a reset of C keeps nothing of the block (R263, R264). -/
theorem CpucfgBlock.resetBlock_of_r40 (hv : cfg.variant = .r40) (c : CpucfgBlock) :
    c.resetBlock cfg = ⟨cfg.genCtrlReset, 0, 0, cfg.r40Reset⟩ := by
  rw [CpucfgBlock.resetBlock, if_pos hv]

/-- In the base variant a reset of C keeps what stands in the r40 registers' place (R45, R264). -/
theorem CpucfgBlock.resetBlock_of_base (hv : cfg.variant = .base) (c : CpucfgBlock) :
    c.resetBlock cfg = ⟨cfg.genCtrlReset, 0, 0, c.r40⟩ := by
  rw [CpucfgBlock.resetBlock, if_neg (by rw [hv]; nofun)]

theorem CpucfgBlock.resetBlock_resetBlock (c : CpucfgBlock) : (c.resetBlock cfg).resetBlock cfg = c.resetBlock cfg := by
  cases hv : cfg.variant with
  | base => simp only [CpucfgBlock.resetBlock_of_base hv]
  | r40 => simp only [CpucfgBlock.resetBlock_of_r40 hv]

/-- Block C at creation has the reset constants in both variants (R267): construction puts the r40 constants in place,
and the reset loads or keeps them. -/
theorem CpucfgBlock.resetBlock_create (cfg : Config) :
    (CpucfgBlock.create cfg).resetBlock cfg = ⟨cfg.genCtrlReset, 0, 0, cfg.r40Reset⟩ := by
  cases hv : cfg.variant with
  | base => exact CpucfgBlock.resetBlock_of_base hv _
  | r40 => exact CpucfgBlock.resetBlock_of_r40 hv _

end Blocks

section Events

variable {s : State} {rest : List HostMove}

/-- A reset event is the whole of its step, and completes (R56, R260). -/
theorem step_of_reset {u : Block} (hp : s.pending = .reset u :: rest) :
    step s = .next ((s.setPending rest).resetEvent u).complete := by
  rw [step, State.serveNext_of_pending_cons hp, State.serve]

/-- A reset emits nothing (R265). -/
@[simp] theorem State.resetEvent_history (s : State) (u : Block) : (s.resetEvent u).history = s.history := by
  cases u <;> rfl

/-- A reset keeps the capacity of both queues (R261, R265). -/
theorem State.resetEvent_caps (s : State) (u : Block) :
    (s.resetEvent u).spi.tx.cap = s.spi.tx.cap ∧ (s.resetEvent u).spi.rx.cap = s.spi.rx.cap := by
  cases u <;> exact ⟨rfl, rfl⟩

/-- A second reset in a row changes nothing more (R269). -/
theorem State.resetEvent_resetEvent (s : State) (u : Block) : (s.resetEvent u).resetEvent u = s.resetEvent u := by
  cases u with
  | spi => exact congrArg s.setSpi s.spi.resetBlock_resetBlock
  | cpucfg => exact congrArg s.setCpucfg s.cpucfg.resetBlock_resetBlock

/-- Creation ends in a reset of each block, so a further reset changes nothing (R267). -/
theorem State.launch_resetEvent (cfg : Config) (u : Block) : (State.launch cfg).resetEvent u = State.launch cfg := by
  cases u with
  | spi => exact congrArg (State.launch cfg).setSpi (SpiBlock.resetBlock_resetBlock _)
  | cpucfg => exact congrArg (State.launch cfg).setCpucfg (CpucfgBlock.resetBlock_resetBlock _)

end Events

/-- Settles O43: the step is the reset event of S. -/
theorem resetOfSpi : Obligations.ResetOfSpi := fun _ _ hp => step_of_reset hp

/-- Settles O44: the file left in the r40 registers' place is the one the reset of C leaves there. -/
theorem resetOfCpucfg : Obligations.ResetOfCpucfg := by
  intro s rest hp
  refine ⟨(s.cpucfg.resetBlock s.cfg).r40, step_of_reset hp, fun hv r => ?_, fun hv => ?_⟩
  · rw [CpucfgBlock.resetBlock_of_r40 hv]
  · rw [CpucfgBlock.resetBlock_of_base hv]

/-- Settles O45: of S a reset keeps the capacities, which the configuration fixes, and of C in the r40 variant
nothing. -/
theorem resetIsIdempotentAndForgets : Obligations.ResetIsIdempotentAndForgets := by
  intro s s' u hcfg hgood hgood'
  rw [← hcfg] at hgood'
  refine ⟨s.resetEvent_resetEvent u, hgood.resetBlock_eq hgood', fun hv => ?_, s.resetEvent_history u⟩
  calc s.cpucfg.resetBlock s.cfg
      = ⟨s.cfg.genCtrlReset, 0, 0, s.cfg.r40Reset⟩ := CpucfgBlock.resetBlock_of_r40 hv _
    _ = s'.cpucfg.resetBlock s.cfg := (CpucfgBlock.resetBlock_of_r40 hv _).symm
    _ = s'.cpucfg.resetBlock s'.cfg := by rw [hcfg]

/-- Settles O46: S at creation is reset from empty queues of the variant's depth, and C from the reset constants. -/
theorem launchStateIsTheResetState : Obligations.LaunchStateIsTheResetState :=
  ⟨rfl, fun cfg => ⟨rfl, rfl, CpucfgBlock.resetBlock_create cfg, rfl, State.launch_resetEvent cfg⟩⟩

/-- Settles O48: `State.reset` is the creation under `standardConfig`, which is admissible. -/
theorem invariantHoldsAtLaunch : Obligations.InvariantHoldsAtLaunch :=
  ⟨fun _ hwf => State.launch_inv hwf, State.launch_inv (by decide)⟩

end Sys2Proof.Machine
end

section
/-! SUPPORT. What every step keeps (spec/10_state.md R57; spec/70_reset_and_hazards.md R265, R266): the configuration, the
capacity of both queues, and the history so far. -/

namespace Sys2Proof.Machine

variable {s t : State} {i : Instr}

/-- A burst keeps both capacities: each turn pops TX and pushes RX at most once (R164). -/
theorem State.burst_caps (s : State) :
    s.burst.spi.tx.cap = s.spi.tx.cap ∧ s.burst.spi.rx.cap = s.spi.rx.cap := by
  refine s.burst_induction (P := fun b => b.tx.cap = s.spi.tx.cap ∧ b.rx.cap = s.spi.rx.cap) ?_ ⟨rfl, rfl⟩
  rintro u ⟨htx, hrx⟩
  obtain ⟨r, rest, -, hw⟩ := u.burstWord_spec
  rw [hw]
  refine ⟨u.spi.tx.pop_cap.trans htx, ?_⟩
  dsimp only
  split
  · exact hrx
  · exact (u.spi.rx.push_cap r).trans hrx

/-- No operation changes a capacity (R25). -/
theorem SpiChange.caps {b : SpiBlock} (h : SpiChange s i b) : b.tx.cap = s.spi.tx.cap ∧ b.rx.cap = s.spi.rx.cap := by
  cases h with
  | tcr sz v hu =>
    rcases hu with rfl | rfl
    · exact s.burst_caps
    · exact ⟨rfl, rfl⟩
  | fcr sz v => exact ⟨s.spi.tx.ite_reset_cap _, s.spi.rx.ite_reset_cap _⟩
  | txd sz v => exact ⟨s.spi.tx.push_cap _, rfl⟩
  | rxd sz => exact ⟨rfl, s.spi.rx.pop_cap⟩
  | keep | gcr | ier | isr | wcr | ccr | mbc | mtc | bcc | dmactl => exact ⟨rfl, rfl⟩

/-- `t` has the configuration and the capacities of `s`, and a history that begins with that of `s`. -/
structure Kept (s t : State) : Prop where
  cfg : t.cfg = s.cfg
  txCap : t.spi.tx.cap = s.spi.tx.cap
  rxCap : t.spi.rx.cap = s.spi.rx.cap
  history : ∃ es, t.history = s.history ++ es

/-- What changes neither the configuration, nor a capacity, nor the history. -/
theorem Kept.of_eq (hcfg : t.cfg = s.cfg) (hcaps : t.spi.tx.cap = s.spi.tx.cap ∧ t.spi.rx.cap = s.spi.rx.cap)
    (hhistory : t.history = s.history) : Kept s t := by
  obtain ⟨htx, hrx⟩ := hcaps
  exact ⟨hcfg, htx, hrx, [], by rw [hhistory, List.append_nil]⟩

theorem Kept.of_exec (he : exec i s = .next t) : Kept s t := by
  obtain ⟨hcfg, hspi, -⟩ := StorageStep.of_exec he
  obtain ⟨htx, hrx⟩ := hspi.caps
  obtain ⟨t', he', hcompleted⟩ := exec_completed s i
  obtain rfl : t' = t := Host.Outcome.next.inj (he'.symm.trans he)
  exact ⟨hcfg, htx, hrx, hcompleted.history⟩

/-- Waiting, a refusal and a reset event leave all of it as it is, and an operation only appends to the history. -/
theorem Kept.of_step (hstep : step s = .next t) : Kept s t := by
  obtain ⟨-, rfl⟩ | ⟨m, rest, -, ⟨r, rfl⟩ | ⟨u, rfl⟩ | ⟨i, he⟩⟩ := step_cases hstep
  · exact .of_eq rfl ⟨rfl, rfl⟩ rfl
  · exact .of_eq rfl ⟨rfl, rfl⟩ rfl
  · exact .of_eq (State.resetEvent_cfg _ u) (State.resetEvent_caps _ u) (State.resetEvent_history _ u)
  · obtain ⟨hcfg, htx, hrx, hhistory⟩ := Kept.of_exec he
    exact ⟨hcfg, htx, hrx, hhistory⟩

/-- Settles O51, from the four cases of a step in `Kept.of_step`. -/
theorem stepKeepsConfigurationAndHistory : Obligations.StepKeepsConfigurationAndHistory := by
  intro s t hstep
  obtain ⟨hcfg, htx, hrx, hhistory⟩ := Kept.of_step hstep
  exact ⟨hcfg, htx, hrx, hhistory⟩

end Sys2Proof.Machine
end
